-- ==== Sys2Proof/Word.lean ====
section
/-! DEFINITION. The widths of the machine's words (00_scope.md R11) and the two one-bit values of the line (10_state.md R26). -/

namespace Sys2Proof

/-- One byte of the frame (30_encoding.md R84). -/
abbrev Byte := BitVec 8

/-- One word of the register window (10_state.md R31). -/
abbrev Word := BitVec 32

/-- A RawFrame of 40 bits, five bytes (30_encoding.md R84). -/
abbrev Frame := BitVec 40

/-- A level of the line, driven or sensed: 0 is low, 1 is high (10_state.md R20, R26). -/
inductive Level
  | low
  | high
  deriving DecidableEq, Repr, Inhabited

/-- The direction of the line: 0 is input, 1 is output (10_state.md R20, R26). -/
inductive Direction
  | input
  | output
  deriving DecidableEq, Repr, Inhabited

end Sys2Proof
end

