-- ==== Sys2Proof/Config.lean ====
section
/-! DEFINITION. What an implementation fixes: the parameters of 00_scope.md R8, their reference values, and the one free value
of the model, the level the sensor shows where no script says it (00_scope.md R7). -/

namespace Sys2Proof

/-- The parameters of one engine (00_scope.md R8), constants of it, in ticks of 1 µs or in samples. The widths are those of the
registers they are loaded into or compared with (92_eei_decisions.md D21), which are also their upper limits.
The engine never reads the last four: two host duties (70_reset_and_hazards.md R244, R247), and the widths of the sensor's two
pulses, "properties of the sensor, not parameters of the engine" (R9), which only decide whether the instance is legal (R245; log
entry 22): the widest 0 pulse and the narrowest 1 pulse of the sensor it is built for. -/
structure Config where
  tStartLow   : BitVec 16
  tStartHigh  : BitVec 16
  pPoll       : BitVec 8
  nResponse   : BitVec 8
  nAck        : BitVec 8
  nDataStart  : BitVec 8
  nBitHigh    : BitVec 8
  nBitLow     : BitVec 8
  tSample     : BitVec 16
  tStabilize  : Nat
  tQuiet      : Nat
  zeroPulse   : Nat
  onePulse    : Nat
  deriving DecidableEq, Repr

/-- The reference values of 00_scope.md R8: "configuration defaults, not … laws"; the pulse widths are those of R9, "~26–28 µs" by its
upper end and "~70 µs" (DESIGN CHOICE, log entry 22). -/
def Config.reference : Config where
  tStartLow   := 5000
  tStartHigh  := 30
  pPoll       := 2
  nResponse   := 60
  nAck        := 50
  nDataStart  := 50
  nBitHigh    := 60
  nBitLow     := 60
  tSample     := 35
  tStabilize  := 100000
  tQuiet      := 2000000
  zeroPulse   := 28
  onePulse    := 70

/-- The number of bits of a frame, fixed (00_scope.md R8, `N_BITS`). -/
def Config.nBits : BitVec 6 := 40

/-- FREE VALUE (log entry 2): the level sensed during tick `k` where the sensor script has ended.
"no rule restricts it" (41_line_driver.md R132), so nothing is known of it. -/
opaque Config.freeLevel : Nat → Level

end Sys2Proof
end

