-- ==== Sys2Proof/Syntax.lean ====
section
/-! DEFINITION. The operations: one constructor of Instr per row of spec/opcode_table.json (30_encoding.md R100), and the host's
and the sensor's notations (30_encoding.md R97 to R99). -/

namespace Sys2Proof

/-- The operations of the opcode table. Operands are the bits an encoding carries beside its code: the 31 ignored bits of a
command word (R94), the data of a register write (R97). -/
inductive Instr
  -- format CMD (30_encoding.md R90)
  | start (ignored : BitVec 31)
  | nop (ignored : BitVec 31)
  -- format REG (30_encoding.md R91)
  | wrCtrl (v : Word)
  | rdCtrl
  | rdStatus
  | rdRaw0
  | rdRaw1
  | rdReading
  | rdReserved14
  | rdReserved18
  | rdReserved1C
  | wrStatus (v : Word)
  | wrRaw0 (v : Word)
  | wrRaw1 (v : Word)
  | wrReading (v : Word)
  | wrReserved14 (v : Word)
  | wrReserved18 (v : Word)
  | wrReserved1C (v : Word)
  -- format PHASE (30_encoding.md R88)
  | idle
  | startLow
  | startHigh
  | awaitResponse
  | awaitAck
  | awaitDataStart
  | bitWaitHigh
  | bitSampleDelay
  | bitWaitLow
  | finalize
  -- format LINE (30_encoding.md R89)
  | driveLow
  | driveHigh
  | release
  | restoreIdle
  | sample
  deriving DecidableEq, Repr

/-- One item of a host program (30_encoding.md R97, R98). -/
inductive HostOp
  /-- A write of `w` to CTRL, read as a command word: `START`, or a NOP (R90, R97). -/
  | command (w : Word)
  /-- A bus operation: the nine bits `we : offset` and the write data, which a read ignores (R91, R97). -/
  | access (sel : BitVec 9) (wdata : Word)
  /-- `WAIT n`: nothing while `n` engine steps happen (R97). -/
  | wait (n : Nat)
  /-- `WAITDONE`: read STATUS, leave if DONE is 1, else WAIT 1 and again (R98). -/
  | waitDone
  /-- The level of the port `rst` from this boundary on (41_line_driver.md R125, 70_reset_and_hazards.md R240). -/
  | rst (asserted : Bool)
  deriving DecidableEq, Repr

/-- A sensor script (30_encoding.md R99): runs of a level and a number of ticks, from the current tick on, and the level that
lasts for ever after them (`*`), or none, where the level is then free. -/
structure SensorScript where
  runs : List (Level × Nat)
  tail : Option Level
  deriving DecidableEq, Repr

/-- `RESET` (R97): assert reset at this boundary, and release it at the same boundary. -/
def HostOp.resetPulse : List HostOp := [.rst true, .rst false]

/-- `PERFORM_READING` (R98): `START; WAITDONE; RD STATUS; RD READING`. -/
def HostOp.performReading : List HostOp :=
  [.command 1, .waitDone, .access 0x004 0, .access 0x010 0]

end Sys2Proof
end

