-- ==== Sys2Proof/Machine/State.lean ====
section
/-! DEFINITION. The state of the machine as plain data: the twelve elements of 10_state.md R20, and beside them what the two
other agents of 00_scope.md R7 bring (the host's operations, the sensor's script) and what the ports of 41_line_driver.md R125
carry. Why the machine stops, and the state after reset (10_state.md R45). -/

namespace Sys2Proof.Machine

/-- The sequencer's ten phases (30_encoding.md R88). Codes 10 to 15 have no value here (R96, 93_implementation_defined.md U6). -/
inductive Phase
  | idle
  | startLow
  | startHigh
  | awaitResponse
  | awaitAck
  | awaitDataStart
  | bitWaitHigh
  | bitSampleDelay
  | bitWaitLow
  | finalize
  deriving DecidableEq, Repr

/-- The five kinds of failure, in the order of their codes 1 to 5 (30_encoding.md R87). Code 0, no error, is `none` in `err`;
codes 6 and 7 have no value here. -/
inductive ErrorKind
  | noResponse
  | noAck
  | noDataStart
  | bitTimeout
  | checksumMismatch
  deriving DecidableEq, Repr

/-- The engine's whole state, "the following twelve elements, and nothing else" (10_state.md R20). -/
structure Engine where
  phase      : Phase
  bitn       : BitVec 6
  tmr        : BitVec 16
  iter       : BitVec 8
  shreg      : Frame
  lineDir    : Direction
  lineOut    : Level
  done       : Bool
  err        : Option ErrorKind
  raw        : Frame
  humTenths  : BitVec 16
  tempTenths : BitVec 16
  deriving DecidableEq, Repr

/-- The machine: the engine's elements, the parameters of this engine (never written), the number of the current tick
(00_scope.md R13), the levels the sensor will show, the host operations still to come, the level of the port `rst`, what the last
register read returned (port `reg_rdata`), and the sample the last engine step took. Log entries 1 to 3 and 6 to 8. -/
structure State where
  engine  : Engine
  config  : Config
  tick    : Nat
  sensor  : SensorScript
  host    : List HostOp
  rst     : Bool
  rdata   : Word
  sampled : Option Level
  deriving DecidableEq, Repr

/-- Why the machine stops with a fault. -/
inductive Fault
  /-- An engine step from `bitn` 41 to 63 or from the line code 0 0, raised by every meaning of format PHASE.
  "treat a step from such a state as a fault, never as a value" (30_encoding.md R96). Safe: no rule reaches such a state. -/
  | unreachableCode
  deriving DecidableEq, Repr

/-- Why the machine gives no next state. -/
inductive Refusal
  /-- An instruction with no meaning yet, raised by exec alone. Safe. -/
  | notModelled (mnemonic : String)
  /-- A host access at an offset that is no word slot, raised by step, `rst` asserted or not. "A model refuses it" (20_memory.md R63).
  Safe. -/
  | unsupportedAccess (sel : BitVec 9)
  /-- A machine whose configuration is not legal (00_scope.md R8, R9), raised by step: it "is not this hardware"
  (70_reset_and_hazards.md R245, 93_implementation_defined.md U9). Safe. -/
  | illegalConfiguration
  deriving DecidableEq, Repr

/-- What the machine does next: run an instruction in a state, change something outside the engine's operations (no instruction),
refuse, or fault. -/
inductive Fetched
  | run (i : Instr) (s : State)
  | surroundings (s : State)
  | refuse (r : Refusal)
  | fault (f : Fault)
  deriving DecidableEq, Repr

/-- The reset value of every element (10_state.md R45). -/
def Engine.reset : Engine where
  phase      := .idle
  bitn       := 0
  tmr        := 0
  iter       := 0
  shreg      := 0
  lineDir    := .output
  lineOut    := .high
  done       := false
  err        := none
  raw        := 0
  humTenths  := 0
  tempTenths := 0

/-- The machine right after reset: the elements as R45 says, `rst` released, the reference parameters of 00_scope.md R8, tick 0,
no host operation, every sensed level free. All but the elements are the model's choices (log entries 1 to 3, 6 to 8 and 22). -/
def State.reset : State where
  engine  := Engine.reset
  config  := Config.reference
  tick    := 0
  sensor  := ⟨[], none⟩
  host    := []
  rst     := false
  rdata   := 0
  sampled := none

end Sys2Proof.Machine
end

