-- ==== Sys2Proof/Machine/Operands.lean ====
section
/-! DEFINITION. What operations read: the sensed level (00_scope.md R13, 41_line_driver.md R132), the bytes and fields of a frame
(30_encoding.md R84 to R86, R92, R93), and the ports (41_line_driver.md R125, R131). -/

namespace Sys2Proof

/-- The bit of a level: low 0, high 1. -/
def Level.bit : Level → BitVec 1
  | .low => 0
  | .high => 1

/-- The bit of a direction: input 0, output 1. -/
def Direction.bit : Direction → BitVec 1
  | .input => 0
  | .output => 1

/-- The level a script gives the current tick: its first run of at least one tick, else its tail (30_encoding.md R99). -/
def scriptLevel : List (Level × Nat) → Option Level → Option Level
  | [], tail => tail
  | (_, 0) :: rest, tail => scriptLevel rest tail
  | (l, _ + 1) :: _, _ => some l

/-- The runs of a script after one tick. -/
def scriptAdvance : List (Level × Nat) → List (Level × Nat)
  | [] => []
  | (_, 0) :: rest => scriptAdvance rest
  | (_, 1) :: rest => rest
  | (l, n + 2) :: rest => (l, n + 1) :: rest

/-- `L(k)` for the current tick `k` (00_scope.md R13): what the script says, and the free level where it says nothing. -/
def SensorScript.level (sc : SensorScript) (k : Nat) : Level :=
  (scriptLevel sc.runs sc.tail).getD (Config.freeLevel k)

/-- The script as it stands one tick later. -/
def SensorScript.advance (sc : SensorScript) : SensorScript := { sc with runs := scriptAdvance sc.runs }

/-- The script as it stands `n` ticks later. -/
def SensorScript.after (sc : SensorScript) : Nat → SensorScript
  | 0 => sc
  | n + 1 => (sc.after n).advance

/-- Byte 0 of a frame, the humidity's high byte: `F[39:32]` (30_encoding.md R84, R92). -/
def byte0 (f : Frame) : Byte := f.extractLsb' 32 8
/-- Byte 1 of a frame, the humidity's low byte: `F[31:24]`. -/
def byte1 (f : Frame) : Byte := f.extractLsb' 24 8
/-- Byte 2 of a frame, the temperature's high byte: `F[23:16]`. -/
def byte2 (f : Frame) : Byte := f.extractLsb' 16 8
/-- Byte 3 of a frame, the temperature's low byte: `F[15:8]`. -/
def byte3 (f : Frame) : Byte := f.extractLsb' 8 8
/-- Byte 4 of a frame, the checksum: `F[7:0]`. -/
def byte4 (f : Frame) : Byte := f.extractLsb' 0 8

/-- `humidity_raw = (byte0 << 8) | byte1` (30_encoding.md R85). -/
def humidityRaw (f : Frame) : BitVec 16 := byte0 f ++ byte1 f

/-- `temperature_raw = (byte2 << 8) | byte3` (30_encoding.md R86). -/
def temperatureRaw (f : Frame) : BitVec 16 := byte2 f ++ byte3 f

namespace Machine

/-- The level sensed during the current tick: the operation Sample's result (41_line_driver.md R132). -/
def State.sensed (s : State) : Level := s.sensor.level s.tick

/-- The level that will be sensed `k` ticks from now. -/
def State.sensedAfter (s : State) (k : Nat) : Level := (s.sensor.after k).level (s.tick + k)

/-- The port `line_oe` (41_line_driver.md R125). -/
def Engine.lineOe (S : Engine) : BitVec 1 := S.lineDir.bit

/-- The port `line_o` (41_line_driver.md R125). -/
def Engine.lineO (S : Engine) : BitVec 1 := S.lineOut.bit

/-- The level on the wire (41_line_driver.md R131): `line_out` while the engine drives, else the sensed level. None where the engine
drives high and the sensor pulls low: the spec gives no level there (93_implementation_defined.md U4). DESIGN CHOICE (log entry 15): the
spec ties `L(k)` to the sensor only while the line is an input; here a low `L(k)` while the engine drives is read as the sensor pulling
low, a high one as its letting go. -/
def State.wire (s : State) : Option Level :=
  match s.engine.lineDir, s.engine.lineOut with
  | .input, _ => some s.sensed
  | .output, .low => some .low
  | .output, .high => if s.sensed = .high then some .high else none

end Machine
end Sys2Proof
end

