-- ==== Sys2Proof/Machine/Flags.lean ====
section
/-! DEFINITION. The codes and derived flags (30_encoding.md R87, R88; 10_state.md R29), the words of the register window
(10_state.md R32 to R37), the checksum (44_finalize_decode.md R182) and the sign-magnitude conversion (R186). -/

namespace Sys2Proof.Machine

/-- The code of a phase (30_encoding.md R88). -/
def Phase.code : Phase → BitVec 4
  | .idle => 0
  | .startLow => 1
  | .startHigh => 2
  | .awaitResponse => 3
  | .awaitAck => 4
  | .awaitDataStart => 5
  | .bitWaitHigh => 6
  | .bitSampleDelay => 7
  | .bitWaitLow => 8
  | .finalize => 9

/-- The phase of a code; none for 10 to 15 (30_encoding.md R96). -/
def phaseOfCode (code : BitVec 4) : Option Phase :=
  match code with
  | 0#4 => some .idle
  | 1#4 => some .startLow
  | 2#4 => some .startHigh
  | 3#4 => some .awaitResponse
  | 4#4 => some .awaitAck
  | 5#4 => some .awaitDataStart
  | 6#4 => some .bitWaitHigh
  | 7#4 => some .bitSampleDelay
  | 8#4 => some .bitWaitLow
  | 9#4 => some .finalize
  | _ => none

/-- The code of an ErrorKind (30_encoding.md R87). -/
def ErrorKind.code : ErrorKind → BitVec 3
  | .noResponse => 1
  | .noAck => 2
  | .noDataStart => 3
  | .bitTimeout => 4
  | .checksumMismatch => 5

/-- The ErrorKind of a code; none for 0, no error, and for 6 and 7, reserved (30_encoding.md R87). -/
def errorKindOfCode (code : BitVec 3) : Option ErrorKind :=
  match code with
  | 1#3 => some .noResponse
  | 2#3 => some .noAck
  | 3#3 => some .noDataStart
  | 4#3 => some .bitTimeout
  | 5#3 => some .checksumMismatch
  | _ => none

/-- The fixed label of an ErrorKind, held by host software (60_exceptions.md R206, 92_eei_decisions.md D27). -/
def ErrorKind.label : ErrorKind → String
  | .noResponse => "No Response"
  | .noAck => "No ACK"
  | .noDataStart => "No Data"
  | .bitTimeout => "Bit Timeout"
  | .checksumMismatch => "Checksum"

/-- The code `err` holds: 0 for none (30_encoding.md R87). -/
def errCode : Option ErrorKind → BitVec 3
  | none => 0
  | some e => e.code

/-- `busy = (phase != IDLE)` (10_state.md R29). -/
def Engine.busy (S : Engine) : Bool := decide (S.phase ≠ .idle)

/-- `valid = (done = 1 and err = 0)` (10_state.md R29). -/
def Engine.valid (S : Engine) : Bool := S.done && decide (S.err = none)

/-- The STATUS word (10_state.md R33): `line_out : line_dir : 00 : bitn : 0000 : phase : 0 : err : 0 : valid : done : busy`,
zero-extended to 32 bits. -/
def statusWord (S : Engine) : Word :=
  0#6 ++ S.lineOut.bit ++ S.lineDir.bit ++ 0#2 ++ S.bitn ++ 0#4 ++ S.phase.code ++ 0#1 ++ errCode S.err ++ 0#1 ++
    BitVec.ofBool S.valid ++ BitVec.ofBool S.done ++ BitVec.ofBool S.busy

/-- CTRL reads 0 (10_state.md R32). -/
def ctrlWord : Word := 0

/-- RAW0 is `raw[39:8]` (10_state.md R34). -/
def raw0Word (S : Engine) : Word := S.raw.extractLsb' 8 32

/-- RAW1 is `raw[7:0]`, zero-extended (10_state.md R35). -/
def raw1Word (S : Engine) : Word := (S.raw.extractLsb' 0 8).setWidth 32

/-- READING is `hum_tenths : temp_tenths` (10_state.md R36). -/
def readingWord (S : Engine) : Word := S.humTenths ++ S.tempTenths

/-- A reserved slot reads 0 (10_state.md R37). -/
def reservedWord : Word := 0

/-- The sum of the four data bytes modulo 256 (44_finalize_decode.md R182). -/
def checksum (f : Frame) : Byte :=
  BitVec.ofNat 8 ((byte0 f).toNat + (byte1 f).toNat + (byte2 f).toNat + (byte3 f).toNat)

/-- The checksum byte as received equals the sum (44_finalize_decode.md R182). -/
def checksumMatches (f : Frame) : Bool := decide (checksum f = byte4 f)

/-- `SignMagToTwos` (44_finalize_decode.md R186): the 16-bit two's complement of a sign-magnitude pattern. -/
def signMagToTwos (t : BitVec 16) : BitVec 16 :=
  if t.getLsbD 15 then 0 - (t.extractLsb' 0 15).setWidth 16 else (t.extractLsb' 0 15).setWidth 16

end Sys2Proof.Machine
end

