-- ==== Sys2Proof/WellFormed.lean ====
section
/-! DEFINITION. What is well formed: a configuration (00_scope.md R8, 70_reset_and_hazards.md R245), a register select
(20_memory.md R62, R63), a host operation and a sensor script. A term of Instr has no ill-formed value: its operands are
exactly the bits its encoding leaves open, each of which R94 and R119 allow every value. -/

namespace Sys2Proof

/-- The constraint of 00_scope.md R9: `T_SAMPLE` strictly between the widths of the sensor's 0 pulse and of its 1 pulse. -/
abbrev Config.Separates (c : Config) : Prop := c.zeroPulse < c.tSample.toNat ∧ c.tSample.toNat < c.onePulse

/-- A legal configuration (70_reset_and_hazards.md R245): every parameter in its range of 00_scope.md R8, whose upper limits are those
of the fields' widths, and `T_SAMPLE` between the pulse widths (R9). -/
abbrev Config.Legal (c : Config) : Prop :=
  1000 ≤ c.tStartLow.toNat ∧ 1 ≤ c.tStartHigh.toNat ∧ 1 ≤ c.pPoll.toNat ∧ 1 ≤ c.nResponse.toNat ∧ 1 ≤ c.nAck.toNat ∧
  1 ≤ c.nDataStart.toNat ∧ 1 ≤ c.nBitHigh.toNat ∧ 1 ≤ c.nBitLow.toNat ∧ 1 ≤ c.tSample.toNat ∧ c.Separates

/-- A register select names a word slot: a byte offset that is a multiple of 4 in 0x00 to 0x1C (20_memory.md R62). -/
abbrev SlotSelect (sel : BitVec 9) : Prop :=
  (sel.extractLsb' 0 8).toNat % 4 = 0 ∧ (sel.extractLsb' 0 8).toNat ≤ 0x1C

/-- A host operation the machine has: only an access can be ill formed (20_memory.md R63). -/
def HostOp.wellFormed : HostOp → Bool
  | .command _ => true
  | .access sel _ => decide (SlotSelect sel)
  | .wait _ => true
  | .waitDone => true
  | .rst _ => true

/-- A sensor script in which every run lasts at least one tick (30_encoding.md R99). -/
def SensorScript.wellFormed (sc : SensorScript) : Bool :=
  sc.runs.all fun r => decide (0 < r.2)

end Sys2Proof
end

