-- ==== Sys2Proof/Machine/Ops.lean ====
section
/-! DEFINITION. The named operations every meaning is written over: the line driver (41_line_driver.md R126 to R129), the failure
entry `Abort` (60_exceptions.md R207), the polling template (42_start_handshake.md R143), the timed wait (10_state.md R23), one
engine tick of the machine (10_state.md R40), a register read, and the port `rst` (70_reset_and_hazards.md R240). -/

namespace Sys2Proof.Machine

/-- `DriveLow` (41_line_driver.md R126). -/
def Engine.driveLow (S : Engine) : Engine := { S with lineDir := .output, lineOut := .low }

/-- `DriveHigh` (41_line_driver.md R127). -/
def Engine.driveHigh (S : Engine) : Engine := { S with lineDir := .output, lineOut := .high }

/-- `Release` (41_line_driver.md R128): `line_out` is not written. -/
def Engine.release (S : Engine) : Engine := { S with lineDir := .input }

/-- `RestoreIdle` (41_line_driver.md R129). -/
def Engine.restoreIdle (S : Engine) : Engine := { S with lineDir := .output, lineOut := .high }

/-- The writes with which every transaction ends (60_exceptions.md R207, 44_finalize_decode.md R181): the line restored, the
outcome's tag written, the sequencer back in canonical idle (10_state.md R42). -/
def Engine.finish (S : Engine) (outcome : Option ErrorKind) : Engine :=
  { S.restoreIdle with
    err := outcome, done := true, phase := .idle, tmr := 0, iter := 0, bitn := 0, shreg := 0 }

/-- TAKING A FAILURE: `Abort(E)` (60_exceptions.md R207). The code is saved in `err`, `done` is set, the line is restored, the
partial frame is destroyed, control returns to IDLE; `raw`, `hum_tenths` and `temp_tenths` are not written. There is no return
from a failure (R210). -/
def Engine.abort (e : ErrorKind) (S : Engine) : Engine := S.finish (some e)

/-- A wait of `tmr` ticks before an action: the action on the step with `tmr = 0`, else only `tmr - 1` (10_state.md R23). -/
def Engine.timed (S : Engine) (action : Engine) : Engine :=
  if S.tmr ≠ 0 then { S with tmr := S.tmr - 1 } else action

/-- One step of a polling phase, `Poll(target, N, E, next)` (42_start_handshake.md R143), with `l` the sensed level. `next` is
applied after the writes `tmr <- 0; iter <- 0`, so that its own write of `tmr` stands (43_bit_readout.md R161). -/
def Engine.poll (c : Config) (target : Level) (n : BitVec 8) (e : ErrorKind) (next : Engine → Engine) (l : Level)
    (S : Engine) : Engine :=
  S.timed <|
    if S.iter = n then S.abort e
    else if l = target then next { S with tmr := 0, iter := 0 }
    else { S with iter := S.iter + 1, tmr := c.pPoll.setWidth 16 - 1 }

/-- A polling step takes its one sample only with `tmr = 0` and `iter != N` (10_state.md R40). -/
def Engine.pollSamples (n : BitVec 8) (S : Engine) : Bool := decide (S.tmr = 0 ∧ S.iter ≠ n)

/-- The codes the rules produce: `bitn` 0 to 40 and a line code other than 0 0 (30_encoding.md R96). -/
abbrev Engine.Encodable (S : Engine) : Prop :=
  S.bitn.toNat ≤ 40 ∧ ¬ (S.lineDir = .input ∧ S.lineOut = .low)

/-- The machine after a tick in which the engine went from its old elements to `S'` (00_scope.md R13): the tick's number and the
sensor's script move on, `sampled` says which level the step sampled, if any. -/
def State.afterTick (s : State) (S' : Engine) (sample : Option Level) : State :=
  { s with engine := S', tick := s.tick + 1, sensor := s.sensor.advance, sampled := sample }

/-- One engine step of the machine (10_state.md R40), to the elements `S'`, sampling if `samples`. A step from a code the spec gives
no meaning is a fault (30_encoding.md R96; log entry 5). -/
def engineTick (samples : Bool) (S' : Engine) (s : State) : Host.Outcome State Fault Refusal :=
  if s.engine.Encodable then .next (s.afterTick S' (if samples then some s.sensed else none))
  else .fault .unreachableCode

/-- A register read (20_memory.md R64): the word goes to the port `reg_rdata`, nothing else changes. -/
def State.readsWord (s : State) (w : Word) : State := { s with rdata := w }

/-- A change of the engine's elements at a boundary, no tick passing. -/
def State.onEngine (s : State) (f : Engine → Engine) : State := { s with engine := f s.engine }

/-- The machine with another list of host operations to come. -/
def State.withHost (s : State) (ops : List HostOp) : State := { s with host := ops }

/-- START (40_host_commands.md R110, R111): accepted in IDLE, ignored in every other phase. -/
def Engine.acceptStart (c : Config) (S : Engine) : Engine :=
  if S.phase = .idle then
    { S.driveLow with
      done := false, err := none, raw := 0, humTenths := 0, tempTenths := 0, bitn := 0, shreg := 0, iter := 0,
      phase := .startLow, tmr := c.tStartLow - 1 }
  else S

/-- The port `rst` takes a level at a boundary (70_reset_and_hazards.md R240): while it is asserted every element is at its reset
value, so that is how a release finds them. Nothing else changes. -/
def State.setRst (s : State) (asserted : Bool) : State :=
  { s with rst := asserted, engine := if asserted || s.rst then Engine.reset else s.engine }

/-- A tick that passes while `rst` is asserted: no engine step takes effect (70_reset_and_hazards.md R240). -/
def State.heldTick (s : State) : State := s.afterTick Engine.reset none

/-- A host access while `rst` is asserted takes no effect (70_reset_and_hazards.md R240). -/
def State.heldAccess (s : State) : State := { s with engine := Engine.reset }

end Sys2Proof.Machine
end

