-- ==== Sys2Proof/Machine/BitReadout.lean ====
section
/-! DEFINITION. Phases 6 to 8: the pulse-width sampling loop and the frame assembler (43_bit_readout.md). -/

namespace Sys2Proof.Machine

/-- The frame assembler: `(shreg << 1)[39:0] | zext_40(l)` (43_bit_readout.md R163, 30_encoding.md R92). -/
def shiftIn (f : Frame) (l : Level) : Frame := (f <<< 1) ||| l.bit.setWidth 40

/-- BIT_WAIT_HIGH: `Poll(1, N_BIT_HIGH, BitTimeout, { phase <- BIT_SAMPLE_DELAY; tmr <- T_SAMPLE - 1 })` (R161). -/
def Engine.bitWaitHigh (c : Config) (l : Level) (S : Engine) : Engine :=
  S.poll c .high c.nBitHigh .bitTimeout (fun T => { T with phase := .bitSampleDelay, tmr := c.tSample - 1 }) l

/-- BIT_SAMPLE_DELAY (R163). -/
def Engine.bitSampleDelay (l : Level) (S : Engine) : Engine :=
  S.timed { S with shreg := shiftIn S.shreg l, bitn := S.bitn + 1, phase := .bitWaitLow, tmr := 0, iter := 0 }

/-- BIT_WAIT_LOW: `Poll(0, N_BIT_LOW, BitTimeout, { if bitn = 40 then phase <- FINALIZE else phase <- BIT_WAIT_HIGH })` (R165). -/
def Engine.bitWaitLow (c : Config) (l : Level) (S : Engine) : Engine :=
  S.poll c .low c.nBitLow .bitTimeout
    (fun T => { T with phase := if T.bitn = Config.nBits then .finalize else .bitWaitHigh }) l

/-- One tick of BIT_WAIT_HIGH (R161). -/
def execBitWaitHigh (s : State) : Host.Outcome State Fault Refusal :=
  engineTick (s.engine.pollSamples s.config.nBitHigh) (s.engine.bitWaitHigh s.config s.sensed) s

/-- One tick of BIT_SAMPLE_DELAY (R163): the sample is taken on the step with `tmr = 0`. -/
def execBitSampleDelay (s : State) : Host.Outcome State Fault Refusal :=
  engineTick (decide (s.engine.tmr = 0)) (s.engine.bitSampleDelay s.sensed) s

/-- One tick of BIT_WAIT_LOW (R165). -/
def execBitWaitLow (s : State) : Host.Outcome State Fault Refusal :=
  engineTick (s.engine.pollSamples s.config.nBitLow) (s.engine.bitWaitLow s.config s.sensed) s

end Sys2Proof.Machine
end

