-- ==== Sys2Proof/Machine/Finalize.lean ====
section
/-! DEFINITION. Phase 9: checksum, decoding and the end of a transaction in one step (44_finalize_decode.md R181). -/

namespace Sys2Proof.Machine

/-- FINALIZE (R181): on a checksum match the frame and the decoded reading are written and the outcome is Success; else the outcome
is ChecksumMismatch and the three result elements are not written. -/
def Engine.finalize (S : Engine) : Engine :=
  if checksumMatches S.shreg then
    { S.finish none with
      raw := S.shreg, humTenths := humidityRaw S.shreg, tempTenths := signMagToTwos (temperatureRaw S.shreg) }
  else S.finish (some .checksumMismatch)

/-- One tick of FINALIZE (R180, R181); it "reads no sample". -/
def execFinalize (s : State) : Host.Outcome State Fault Refusal :=
  engineTick false s.engine.finalize s

end Sys2Proof.Machine
end

