-- ==== Sys2Proof/Decode.lean ====
section
/-! DEFINITION. The decoder of the four formats (30_encoding.md R88 to R91, R100), total, rejecting by name; then the encoder,
written from the same tables, and the rows of the opcode table. -/

namespace Sys2Proof

/-- One encoded operation, in one of the formats of 30_encoding.md R100. `sample` is the row with an empty encoding. -/
inductive OpWord
  | cmd (w : Word)
  | reg (sel : BitVec 9) (wdata : Word)
  | phase (code : BitVec 4)
  | line (code : BitVec 2)
  | sample
  deriving DecidableEq, Repr

/-- Why a word is no operation. -/
inductive DecodeError
  /-- The offset is no word slot (20_memory.md R63). -/
  | unsupportedAccess
  /-- A phase code 10 to 15 (30_encoding.md R96). -/
  | unreachablePhase
  /-- The line code 0 0 (30_encoding.md R96). -/
  | unreachableLine
  deriving DecidableEq, Repr

/-- Bit 0 of a command word selects START (30_encoding.md R90). -/
def commandIsStart (w : Word) : Bool := w.getLsbD 0

/-- The command table (30_encoding.md R90, R94): no command word is illegal. -/
def decodeCommand (w : Word) : Instr :=
  if commandIsStart w then .start (w.extractLsb' 1 31) else .nop (w.extractLsb' 1 31)

/-- The register select table (30_encoding.md R91), `we` in bit 8, the byte offset in bits 7:0. -/
def decodeRegister (sel : BitVec 9) (wdata : Word) : Except DecodeError Instr :=
  match sel with
  | 0x100#9 => .ok (.wrCtrl wdata)
  | 0x000#9 => .ok .rdCtrl
  | 0x004#9 => .ok .rdStatus
  | 0x008#9 => .ok .rdRaw0
  | 0x00C#9 => .ok .rdRaw1
  | 0x010#9 => .ok .rdReading
  | 0x014#9 => .ok .rdReserved14
  | 0x018#9 => .ok .rdReserved18
  | 0x01C#9 => .ok .rdReserved1C
  | 0x104#9 => .ok (.wrStatus wdata)
  | 0x108#9 => .ok (.wrRaw0 wdata)
  | 0x10C#9 => .ok (.wrRaw1 wdata)
  | 0x110#9 => .ok (.wrReading wdata)
  | 0x114#9 => .ok (.wrReserved14 wdata)
  | 0x118#9 => .ok (.wrReserved18 wdata)
  | 0x11C#9 => .ok (.wrReserved1C wdata)
  | _ => .error .unsupportedAccess

/-- The phase table (30_encoding.md R88): "a decoder of the engine's step is this table". -/
def decodePhase (code : BitVec 4) : Except DecodeError Instr :=
  match code with
  | 0#4 => .ok .idle
  | 1#4 => .ok .startLow
  | 2#4 => .ok .startHigh
  | 3#4 => .ok .awaitResponse
  | 4#4 => .ok .awaitAck
  | 5#4 => .ok .awaitDataStart
  | 6#4 => .ok .bitWaitHigh
  | 7#4 => .ok .bitSampleDelay
  | 8#4 => .ok .bitWaitLow
  | 9#4 => .ok .finalize
  | _ => .error .unreachablePhase

/-- The line-driver table (30_encoding.md R89). The word 1 1 is DriveHigh's and RestoreIdle's: it decodes to DriveHigh, of which
RestoreIdle is a second name (41_line_driver.md R129; log entry 10). -/
def decodeLine (code : BitVec 2) : Except DecodeError Instr :=
  match code with
  | 0b10#2 => .ok .driveLow
  | 0b11#2 => .ok .driveHigh
  | 0b01#2 => .ok .release
  | _ => .error .unreachableLine

/-- The decoder of every format (30_encoding.md R100). -/
def decode : OpWord → Except DecodeError Instr
  | .cmd w => .ok (decodeCommand w)
  | .reg sel v => decodeRegister sel v
  | .phase code => decodePhase code
  | .line code => decodeLine code
  | .sample => .ok .sample

/-- The word of an operation (30_encoding.md R88 to R91). A read carries no data: its data lines are 0. -/
def encode : Instr → OpWord
  | .start r => .cmd (r ++ 1#1)
  | .nop r => .cmd (r ++ 0#1)
  | .wrCtrl v => .reg 0b100000000 v
  | .rdCtrl => .reg 0b000000000 0
  | .rdStatus => .reg 0b000000100 0
  | .rdRaw0 => .reg 0b000001000 0
  | .rdRaw1 => .reg 0b000001100 0
  | .rdReading => .reg 0b000010000 0
  | .rdReserved14 => .reg 0b000010100 0
  | .rdReserved18 => .reg 0b000011000 0
  | .rdReserved1C => .reg 0b000011100 0
  | .wrStatus v => .reg 0b100000100 v
  | .wrRaw0 v => .reg 0b100001000 v
  | .wrRaw1 v => .reg 0b100001100 v
  | .wrReading v => .reg 0b100010000 v
  | .wrReserved14 v => .reg 0b100010100 v
  | .wrReserved18 v => .reg 0b100011000 v
  | .wrReserved1C v => .reg 0b100011100 v
  | .idle => .phase 0b0000
  | .startLow => .phase 0b0001
  | .startHigh => .phase 0b0010
  | .awaitResponse => .phase 0b0011
  | .awaitAck => .phase 0b0100
  | .awaitDataStart => .phase 0b0101
  | .bitWaitHigh => .phase 0b0110
  | .bitSampleDelay => .phase 0b0111
  | .bitWaitLow => .phase 0b1000
  | .finalize => .phase 0b1001
  | .driveLow => .line 0b10
  | .driveHigh => .line 0b11
  | .release => .line 0b01
  | .restoreIdle => .line 0b11
  | .sample => .sample

/-- The operation a word of `i` decodes to: `i` itself, but for RestoreIdle, whose word is DriveHigh's (R89). -/
def Instr.canonical : Instr → Instr
  | .restoreIdle => .driveHigh
  | i => i

/-- The word without the data lines of a read, which no read looks at ("-" in 30_encoding.md R97). -/
def OpWord.dropReadData : OpWord → OpWord
  | .reg sel v => .reg sel (if sel.getLsbD 8 then v else 0)
  | w => w

/-- The bits of a word, as spec/opcode_table.json numbers them (log entry 10): CMD in 32 bits, REG in 9 (two whole bytes), PHASE
in 4 (one byte), LINE in 2, Sample in none. A row's missing operand bits, the data of a write, are 0. Eight bits are read as a
PHASE word: the table gives PHASE and LINE words the same values and only their widths tell them apart. -/
def tableWord (nbits w : Nat) : Option OpWord :=
  if nbits = 32 then (if w < 2 ^ 32 then some (.cmd (BitVec.ofNat 32 w)) else none)
  else if nbits = 9 ∨ nbits = 16 then (if w < 2 ^ 9 then some (.reg (BitVec.ofNat 9 w) 0) else none)
  else if nbits = 4 ∨ nbits = 8 then (if w < 2 ^ 4 then some (.phase (BitVec.ofNat 4 w)) else none)
  else if nbits = 2 then (if w < 2 ^ 2 then some (.line (BitVec.ofNat 2 w)) else none)
  else if nbits = 0 then some .sample
  else none

/-- The instruction the decoder reads from a word of the opcode table. -/
def decodeTableWord (nbits w : Nat) : Option Instr :=
  match tableWord nbits w with
  | some ow => (decode ow).toOption
  | none => none

/-- The formats of the opcode table (30_encoding.md R100). -/
inductive Format
  | cmd
  | reg
  | phase
  | line
  deriving DecidableEq, Repr

/-- One row of spec/opcode_table.json: its format, its width, and its match and mask. -/
structure OpcodeRow where
  format : Format
  width  : Nat
  bits   : Nat
  mask   : Nat
  deriving DecidableEq, Repr

/-- The row of each operation. -/
def Instr.row : Instr → OpcodeRow
  | .start _ => ⟨.cmd, 32, 0x00000001, 0x00000001⟩
  | .nop _ => ⟨.cmd, 32, 0x00000000, 0x00000001⟩
  | .wrCtrl _ => ⟨.reg, 9, 0x100, 0x1FF⟩
  | .rdCtrl => ⟨.reg, 9, 0x000, 0x1FF⟩
  | .rdStatus => ⟨.reg, 9, 0x004, 0x1FF⟩
  | .rdRaw0 => ⟨.reg, 9, 0x008, 0x1FF⟩
  | .rdRaw1 => ⟨.reg, 9, 0x00C, 0x1FF⟩
  | .rdReading => ⟨.reg, 9, 0x010, 0x1FF⟩
  | .rdReserved14 => ⟨.reg, 9, 0x014, 0x1FF⟩
  | .rdReserved18 => ⟨.reg, 9, 0x018, 0x1FF⟩
  | .rdReserved1C => ⟨.reg, 9, 0x01C, 0x1FF⟩
  | .wrStatus _ => ⟨.reg, 9, 0x104, 0x1FF⟩
  | .wrRaw0 _ => ⟨.reg, 9, 0x108, 0x1FF⟩
  | .wrRaw1 _ => ⟨.reg, 9, 0x10C, 0x1FF⟩
  | .wrReading _ => ⟨.reg, 9, 0x110, 0x1FF⟩
  | .wrReserved14 _ => ⟨.reg, 9, 0x114, 0x1FF⟩
  | .wrReserved18 _ => ⟨.reg, 9, 0x118, 0x1FF⟩
  | .wrReserved1C _ => ⟨.reg, 9, 0x11C, 0x1FF⟩
  | .idle => ⟨.phase, 4, 0x0, 0xF⟩
  | .startLow => ⟨.phase, 4, 0x1, 0xF⟩
  | .startHigh => ⟨.phase, 4, 0x2, 0xF⟩
  | .awaitResponse => ⟨.phase, 4, 0x3, 0xF⟩
  | .awaitAck => ⟨.phase, 4, 0x4, 0xF⟩
  | .awaitDataStart => ⟨.phase, 4, 0x5, 0xF⟩
  | .bitWaitHigh => ⟨.phase, 4, 0x6, 0xF⟩
  | .bitSampleDelay => ⟨.phase, 4, 0x7, 0xF⟩
  | .bitWaitLow => ⟨.phase, 4, 0x8, 0xF⟩
  | .finalize => ⟨.phase, 4, 0x9, 0xF⟩
  | .driveLow => ⟨.line, 2, 0x2, 0x3⟩
  | .driveHigh => ⟨.line, 2, 0x3, 0x3⟩
  | .release => ⟨.line, 2, 0x1, 0x3⟩
  | .restoreIdle => ⟨.line, 2, 0x3, 0x3⟩
  | .sample => ⟨.line, 0, 0x0, 0x0⟩

/-- The bits of a word as the opcode table numbers them, the data of a write apart. -/
def OpWord.tableBits : OpWord → Nat
  | .cmd w => w.toNat
  | .reg sel _ => sel.toNat
  | .phase code => code.toNat
  | .line code => code.toNat
  | .sample => 0

/-- The format of a word. -/
def OpWord.format : OpWord → Format
  | .cmd _ => .cmd
  | .reg _ _ => .reg
  | .phase _ => .phase
  | .line _ => .line
  | .sample => .line

end Sys2Proof
end

