-- ==== Sys2Proof/Machine/HostCommands.lean ====
section
/-! DEFINITION. The host's operations (40_host_commands.md): the two commands, the reads and the ignored writes. None takes a tick:
a host access acts at a boundary (20_memory.md R68). -/

namespace Sys2Proof.Machine

/-- START (R110, R111). Bits 31:1 of its word are ignored (30_encoding.md R94). -/
def execStart (_ignored : BitVec 31) (s : State) : Host.Outcome State Fault Refusal :=
  .next (s.onEngine (Engine.acceptStart s.config))

/-- NOP: nothing, in any phase (R112). -/
def execNop (_ignored : BitVec 31) (s : State) : Host.Outcome State Fault Refusal := .next s

/-- WR CTRL: the data is a command word (30_encoding.md R90, R91): START with bit 0 = 1, else NOP. -/
def execWrCtrl (v : Word) (s : State) : Host.Outcome State Fault Refusal :=
  if commandIsStart v then .next (s.onEngine (Engine.acceptStart s.config)) else .next s

/-- RD CTRL (R113). -/
def execRdCtrl (s : State) : Host.Outcome State Fault Refusal := .next (s.readsWord ctrlWord)

/-- RD STATUS (R114). -/
def execRdStatus (s : State) : Host.Outcome State Fault Refusal := .next (s.readsWord (statusWord s.engine))

/-- RD RAW0 (R115). -/
def execRdRaw0 (s : State) : Host.Outcome State Fault Refusal := .next (s.readsWord (raw0Word s.engine))

/-- RD RAW1 (R116). -/
def execRdRaw1 (s : State) : Host.Outcome State Fault Refusal := .next (s.readsWord (raw1Word s.engine))

/-- RD READING (R117). -/
def execRdReading (s : State) : Host.Outcome State Fault Refusal := .next (s.readsWord (readingWord s.engine))

/-- RD of the reserved slot 0x14 (R118). -/
def execRdReserved14 (s : State) : Host.Outcome State Fault Refusal := .next (s.readsWord reservedWord)

/-- RD of the reserved slot 0x18 (R118). -/
def execRdReserved18 (s : State) : Host.Outcome State Fault Refusal := .next (s.readsWord reservedWord)

/-- RD of the reserved slot 0x1C (R118). -/
def execRdReserved1C (s : State) : Host.Outcome State Fault Refusal := .next (s.readsWord reservedWord)

/-- WR STATUS: ignored (R119). -/
def execWrStatus (_v : Word) (s : State) : Host.Outcome State Fault Refusal := .next s

/-- WR RAW0: ignored (R119). -/
def execWrRaw0 (_v : Word) (s : State) : Host.Outcome State Fault Refusal := .next s

/-- WR RAW1: ignored (R119). -/
def execWrRaw1 (_v : Word) (s : State) : Host.Outcome State Fault Refusal := .next s

/-- WR READING: ignored (R119). -/
def execWrReading (_v : Word) (s : State) : Host.Outcome State Fault Refusal := .next s

/-- WR of the reserved slot 0x14: ignored (R119). -/
def execWrReserved14 (_v : Word) (s : State) : Host.Outcome State Fault Refusal := .next s

/-- WR of the reserved slot 0x18: ignored (R119). -/
def execWrReserved18 (_v : Word) (s : State) : Host.Outcome State Fault Refusal := .next s

/-- WR of the reserved slot 0x1C: ignored (R119). -/
def execWrReserved1C (_v : Word) (s : State) : Host.Outcome State Fault Refusal := .next s

end Sys2Proof.Machine
end

