-- ==== Sys2Proof/Machine/LineDriver.lean ====
section
/-! DEFINITION. The line-driver operations of 41_line_driver.md as instructions of their own (format LINE), and the IDLE phase.
The operations of format LINE are parts of an engine step or of START: alone they take no tick (log entry 11). -/

namespace Sys2Proof.Machine

/-- DriveLow: `line_dir <- 1; line_out <- 0` (R126). -/
def execDriveLow (s : State) : Host.Outcome State Fault Refusal := .next (s.onEngine Engine.driveLow)

/-- DriveHigh: `line_dir <- 1; line_out <- 1` (R127). -/
def execDriveHigh (s : State) : Host.Outcome State Fault Refusal := .next (s.onEngine Engine.driveHigh)

/-- Release: `line_dir <- 0` (R128). -/
def execRelease (s : State) : Host.Outcome State Fault Refusal := .next (s.onEngine Engine.release)

/-- RestoreIdle: `line_dir <- 1; line_out <- 1` (R129). -/
def execRestoreIdle (s : State) : Host.Outcome State Fault Refusal := .next (s.onEngine Engine.restoreIdle)

/-- Sample: the result is the sensed level; "It writes nothing" of the engine (R132). -/
def execSample (s : State) : Host.Outcome State Fault Refusal := .next { s with sampled := some s.sensed }

/-- Hold, the IDLE phase's step: `EngineStep(S, l) = S` (R130). -/
def execIdle (s : State) : Host.Outcome State Fault Refusal := engineTick false s.engine s

end Sys2Proof.Machine
end

