-- ==== Sys2Proof/Machine/StartHandshake.lean ====
section
/-! DEFINITION. Phases 1 to 5: the start pulse and the handshake (42_start_handshake.md). Each phase is a function on the engine's
elements, and its meaning one tick of it. -/

namespace Sys2Proof.Machine

/-- START_LOW (R140). -/
def Engine.startLow (c : Config) (S : Engine) : Engine :=
  S.timed { S.driveHigh with phase := .startHigh, tmr := c.tStartHigh - 1 }

/-- START_HIGH (R141). -/
def Engine.startHigh (S : Engine) : Engine :=
  S.timed { S.release with phase := .awaitResponse, tmr := 0, iter := 0 }

/-- AWAIT_RESPONSE: `Poll(0, N_RESPONSE, NoResponse, { phase <- AWAIT_ACK })` (R144). -/
def Engine.awaitResponse (c : Config) (l : Level) (S : Engine) : Engine :=
  S.poll c .low c.nResponse .noResponse (fun T => { T with phase := .awaitAck }) l

/-- AWAIT_ACK: `Poll(1, N_ACK, NoAck, { phase <- AWAIT_DATA_START })` (R145). -/
def Engine.awaitAck (c : Config) (l : Level) (S : Engine) : Engine :=
  S.poll c .high c.nAck .noAck (fun T => { T with phase := .awaitDataStart }) l

/-- AWAIT_DATA_START: `Poll(0, N_DATA_START, NoDataStart, { phase <- BIT_WAIT_HIGH; bitn <- 0; shreg <- 0 })` (R146). -/
def Engine.awaitDataStart (c : Config) (l : Level) (S : Engine) : Engine :=
  S.poll c .low c.nDataStart .noDataStart (fun T => { T with phase := .bitWaitHigh, bitn := 0, shreg := 0 }) l

/-- One tick of START_LOW (R140); it does not read `l`. -/
def execStartLow (s : State) : Host.Outcome State Fault Refusal :=
  engineTick false (s.engine.startLow s.config) s

/-- One tick of START_HIGH (R141); it does not read `l`. -/
def execStartHigh (s : State) : Host.Outcome State Fault Refusal :=
  engineTick false s.engine.startHigh s

/-- One tick of AWAIT_RESPONSE (R144). -/
def execAwaitResponse (s : State) : Host.Outcome State Fault Refusal :=
  engineTick (s.engine.pollSamples s.config.nResponse) (s.engine.awaitResponse s.config s.sensed) s

/-- One tick of AWAIT_ACK (R145). -/
def execAwaitAck (s : State) : Host.Outcome State Fault Refusal :=
  engineTick (s.engine.pollSamples s.config.nAck) (s.engine.awaitAck s.config s.sensed) s

/-- One tick of AWAIT_DATA_START (R146). -/
def execAwaitDataStart (s : State) : Host.Outcome State Fault Refusal :=
  engineTick (s.engine.pollSamples s.config.nDataStart) (s.engine.awaitDataStart s.config s.sensed) s

end Sys2Proof.Machine
end

