-- ==== Sys2Proof/Machine/Dispatch.lean ====
section
/-! DEFINITION. One arm per operation of the opcode table. -/

namespace Sys2Proof.Machine

def exec (i : Instr) (s : State) : Host.Outcome State Fault Refusal :=
  match i with
  -- format CMD
  | .start r => Sys2Proof.Machine.execStart r s
  | .nop r => Sys2Proof.Machine.execNop r s
  -- format REG
  | .wrCtrl v => Sys2Proof.Machine.execWrCtrl v s
  | .rdCtrl => Sys2Proof.Machine.execRdCtrl s
  | .rdStatus => Sys2Proof.Machine.execRdStatus s
  | .rdRaw0 => Sys2Proof.Machine.execRdRaw0 s
  | .rdRaw1 => Sys2Proof.Machine.execRdRaw1 s
  | .rdReading => Sys2Proof.Machine.execRdReading s
  | .rdReserved14 => Sys2Proof.Machine.execRdReserved14 s
  | .rdReserved18 => Sys2Proof.Machine.execRdReserved18 s
  | .rdReserved1C => Sys2Proof.Machine.execRdReserved1C s
  | .wrStatus v => Sys2Proof.Machine.execWrStatus v s
  | .wrRaw0 v => Sys2Proof.Machine.execWrRaw0 v s
  | .wrRaw1 v => Sys2Proof.Machine.execWrRaw1 v s
  | .wrReading v => Sys2Proof.Machine.execWrReading v s
  | .wrReserved14 v => Sys2Proof.Machine.execWrReserved14 v s
  | .wrReserved18 v => Sys2Proof.Machine.execWrReserved18 v s
  | .wrReserved1C v => Sys2Proof.Machine.execWrReserved1C v s
  -- format PHASE
  | .idle => Sys2Proof.Machine.execIdle s
  | .startLow => Sys2Proof.Machine.execStartLow s
  | .startHigh => Sys2Proof.Machine.execStartHigh s
  | .awaitResponse => Sys2Proof.Machine.execAwaitResponse s
  | .awaitAck => Sys2Proof.Machine.execAwaitAck s
  | .awaitDataStart => Sys2Proof.Machine.execAwaitDataStart s
  | .bitWaitHigh => Sys2Proof.Machine.execBitWaitHigh s
  | .bitSampleDelay => Sys2Proof.Machine.execBitSampleDelay s
  | .bitWaitLow => Sys2Proof.Machine.execBitWaitLow s
  | .finalize => Sys2Proof.Machine.execFinalize s
  -- format LINE
  | .driveLow => Sys2Proof.Machine.execDriveLow s
  | .driveHigh => Sys2Proof.Machine.execDriveHigh s
  | .release => Sys2Proof.Machine.execRelease s
  | .restoreIdle => Sys2Proof.Machine.execRestoreIdle s
  | .sample => Sys2Proof.Machine.execSample s

end Sys2Proof.Machine
end

