-- ==== Sys2Proof/Machine/Fetch.lean ====
section
/-! DEFINITION. Which operation the machine performs next. The host's operations at a boundary come before that tick's engine step
(20_memory.md R68); with none left to do at this boundary, the engine's step is the one its phase selects (10_state.md R21, R40). -/

namespace Sys2Proof.Machine

/-- The engine's step of this tick: the decoder of the phase code (30_encoding.md R88). -/
def fetchEngine (s : State) : Fetched :=
  match decode (.phase s.engine.phase.code) with
  | .ok i => .run i s
  | .error _ => .fault .unreachableCode

/-- What is left of a host program after one tick of `WAIT (n + 1)`. -/
def waitLeft (n : Nat) (rest : List HostOp) : List HostOp :=
  if n = 0 then rest else .wait n :: rest

/-- What is left of a host program after the read of one `WAITDONE`, from the word read: nothing of it with DONE = 1 (bit 1), else
`WAIT 1` and again (30_encoding.md R98). -/
def waitDoneLeft (status : Word) (rest : List HostOp) : List HostOp :=
  if status.getLsbD 1 then rest else .wait 1 :: .waitDone :: rest

/-- The next operation with `rst` released. -/
def fetchReleased (s : State) : Fetched :=
  match s.host with
  | [] => fetchEngine s
  | .command w :: rest => .run (decodeCommand w) (s.withHost rest)
  | .access sel v :: rest =>
    match decode (.reg sel v) with
    | .ok i => .run i (s.withHost rest)
    | .error _ => .refuse (.unsupportedAccess sel)
  | .wait 0 :: rest => .surroundings (s.withHost rest)
  | .wait (n + 1) :: rest => fetchEngine (s.withHost (waitLeft n rest))
  | .waitDone :: rest => .run .rdStatus (s.withHost (waitDoneLeft (statusWord s.engine) rest))
  | .rst b :: rest => .surroundings ((s.withHost rest).setRst b)

/-- What happens with `rst` asserted: "no engine step and no host access takes effect" (70_reset_and_hazards.md R240). Ticks pass;
a `WAITDONE` cannot end, since its read has no effect (log entry 6). An access at no word slot is no operation of the machine and is
refused here as well (20_memory.md R63). -/
def fetchHeld (s : State) : Fetched :=
  match s.host with
  | [] => .surroundings s.heldTick
  | .command _ :: rest => .surroundings (s.withHost rest).heldAccess
  | .access sel v :: rest =>
    match decode (.reg sel v) with
    | .ok _ => .surroundings (s.withHost rest).heldAccess
    | .error _ => .refuse (.unsupportedAccess sel)
  | .wait 0 :: rest => .surroundings (s.withHost rest).heldAccess
  | .wait (n + 1) :: rest => .surroundings (s.withHost (waitLeft n rest)).heldTick
  | .waitDone :: _ => .surroundings s.heldTick
  | .rst b :: rest => .surroundings ((s.withHost rest).setRst b)

/-- The machine's next operation. A machine with illegal parameters is not this hardware (70_reset_and_hazards.md R245). -/
def fetch (s : State) : Fetched :=
  if s.config.Legal then (if s.rst then fetchHeld s else fetchReleased s) else .refuse .illegalConfiguration

/-- `s` with one encoded operation placed where the machine takes its next one (log entry 11): a host operation before the host's
others; a phase in the sequencer's position, with one tick to run it. The operations of format LINE have no place of their own:
the state is put where the very next operation performs it (START for DriveLow; the last step of START_LOW for DriveHigh and of
START_HIGH for Release; the sampling step for Sample). -/
def State.placeWord (s : State) : OpWord → State
  | .cmd w => { s with rst := false, host := .command w :: s.host }
  | .reg sel v => { s with rst := false, host := .access sel v :: s.host }
  | .phase code =>
    match phaseOfCode code with
    | some p => { s with rst := false, host := .wait 1 :: s.host, engine := { s.engine with phase := p } }
    | none => s
  | .line code =>
    match code with
    | 0b10#2 => { s with rst := false, host := .command 1 :: s.host, engine := { s.engine with phase := .idle } }
    | 0b11#2 => { s with rst := false, host := .wait 1 :: s.host, engine := { s.engine with phase := .startLow, tmr := 0 } }
    | 0b01#2 => { s with rst := false, host := .wait 1 :: s.host, engine := { s.engine with phase := .startHigh, tmr := 0 } }
    | _ => s
  | .sample =>
    { s with rst := false, host := .wait 1 :: s.host,
             engine := { s.engine with phase := .bitSampleDelay, tmr := 0, lineDir := .input } }

end Sys2Proof.Machine
end

