-- ==== Sys2Proof/Machine/Step.lean ====
section
/-! DEFINITION. One step of the machine: fetch, then run. A host access takes no tick, an engine step takes one (20_memory.md R68). -/

namespace Sys2Proof.Machine

/-- One step of the machine. -/
def step (s : State) : Host.Outcome State Fault Refusal :=
  match fetch s with
  | .run i t => exec i t
  | .surroundings t => .next t
  | .refuse r => .refused r
  | .fault f => .fault f

/-- `s` with an opcode-table word placed where `step` takes its next operation; `s` itself where the bits are no word of the table
(log entries 10 and 11). -/
def State.withFetchWord (s : State) (nbits w : Nat) : State :=
  match tableWord nbits w with
  | some ow => s.placeWord ow
  | none => s

end Sys2Proof.Machine
end

