-- ==== Sys2Proof/Machine/EngineStep.lean ====
section
/-! DEFINITION. The step relation of 10_state.md R40 on the engine's elements alone, `EngineStep(S, l)`, for claims about a whole
transaction under any levels `L` (00_scope.md R7, R13). The meanings of format PHASE are one tick of these same functions. -/

namespace Sys2Proof.Machine

/-- `EngineStep(S, l)` (10_state.md R40): the dispatch on `phase`. DESIGN CHOICE (log entry 5), unsafe from such states alone: it is
total, so it has a value from `bitn` 41 to 63 and from the line code 0 0 too, which 30_encoding.md R96 gives no meaning; the machine's
own step (engineTick) is a fault there. -/
def Engine.step (c : Config) (S : Engine) (l : Level) : Engine :=
  match S.phase with
  | .idle => S
  | .startLow => S.startLow c
  | .startHigh => S.startHigh
  | .awaitResponse => S.awaitResponse c l
  | .awaitAck => S.awaitAck c l
  | .awaitDataStart => S.awaitDataStart c l
  | .bitWaitHigh => S.bitWaitHigh c l
  | .bitSampleDelay => S.bitSampleDelay l
  | .bitWaitLow => S.bitWaitLow c l
  | .finalize => S.finalize

/-- Whether the step from `S` reads the sensed level (10_state.md R40). -/
def Engine.samples (c : Config) (S : Engine) : Bool :=
  match S.phase with
  | .idle | .startLow | .startHigh | .finalize => false
  | .awaitResponse => S.pollSamples c.nResponse
  | .awaitAck => S.pollSamples c.nAck
  | .awaitDataStart => S.pollSamples c.nDataStart
  | .bitWaitHigh => S.pollSamples c.nBitHigh
  | .bitSampleDelay => decide (S.tmr = 0)
  | .bitWaitLow => S.pollSamples c.nBitLow

/-- `n` engine steps from `S`, the first in tick `k`: `S_(k+1) = EngineStep(S_k, L(k))` (00_scope.md R13). Total as Engine.step is: from
a state of 30_encoding.md R96's unreachable codes it has a value where the machine faults (log entry 5). -/
def Engine.run (c : Config) (L : Nat → Level) (k : Nat) (S : Engine) : Nat → Engine
  | 0 => S
  | n + 1 => (Engine.run c L k S n).step c (L (k + n))

end Sys2Proof.Machine
end

