-- ==== Sys2Proof/Machine/Outcome.lean ====
section
/-! DEFINITION. What the host holds after a transaction (40_host_commands.md R120, 60_exceptions.md R200): the source's
TransactionOutcome, read from the words of STATUS and READING, and the Reading as numbers (44_finalize_decode.md R188). -/

namespace Sys2Proof.Machine

/-- A Reading in tenths (10_state.md R36). -/
structure Reading where
  humTenths  : BitVec 16
  tempTenths : BitVec 16
  deriving DecidableEq, Repr

/-- Relative humidity in percent: `uint(hum_tenths) / 10`, exactly (44_finalize_decode.md R188). -/
def Reading.humidity (r : Reading) : ℚ := (r.humTenths.toNat : ℚ) / 10

/-- Temperature in degrees Celsius: `sint_16(temp_tenths) / 10`, exactly (44_finalize_decode.md R188). -/
def Reading.temperature (r : Reading) : ℚ := (r.tempTenths.toInt : ℚ) / 10

/-- "a tagged result — either `Success(Reading)` or `Failure(ErrorKind)`" (00_scope.md R16). -/
inductive TransactionOutcome
  | success (r : Reading)
  | failure (e : ErrorKind)
  deriving DecidableEq, Repr

/-- The outcome a host reads from STATUS and READING (40_host_commands.md R120). None while DONE = 0, and for an ERR code that is
reserved (30_encoding.md R95: "hardware that is not this engine"). -/
def outcomeOfWords (status reading : Word) : Option TransactionOutcome :=
  if status.getLsbD 1 then
    if status.getLsbD 2 then some (.success ⟨reading.extractLsb' 16 16, reading.extractLsb' 0 16⟩)
    else (errorKindOfCode (status.extractLsb' 4 3)).map .failure
  else none

/-- The outcome the engine holds (10_state.md R27, R28). -/
def Engine.outcome (S : Engine) : Option TransactionOutcome :=
  match S.done, S.err with
  | false, _ => none
  | true, none => some (.success ⟨S.humTenths, S.tempTenths⟩)
  | true, some e => some (.failure e)

end Sys2Proof.Machine
end

