-- ==== Sys2Proof/Machine/Sensor.lean ====
section
/-! DEFINITION. The sensor scripts of 30_encoding.md R99 and 95_test_vectors.md section 0: stimuli on the line, no part of the
engine ("any values inside the engine's windows would do", 93_implementation_defined.md G3). -/

namespace Sys2Proof.Machine

/-- `BIT0(w)` and `BIT1(w)`: `L50 Hw` (30_encoding.md R99). -/
def bitRuns (width : Nat) : List (Level × Nat) := [(.low, 50), (.high, width)]

/-- The runs of the last `n` bits of a frame from the nominal sensor, bit `n - 1` first (20_memory.md R66): a high of 27 ticks for a
0, of 70 for a 1. -/
def nominalBits (f : Frame) : Nat → List (Level × Nat)
  | 0 => []
  | n + 1 => bitRuns (if f.getLsbD n then 70 else 27) ++ nominalBits f n

/-- `FRAME(b0 b1 b2 b3 b4)`: `H30 L80 H80`, the forty bits, then `L50 H*`, after `lead` ticks high in which the line is not yet an
input (95_test_vectors.md section 0). -/
def frameScript (lead : Nat) (f : Frame) : SensorScript where
  runs := (.high, lead) :: (.high, 30) :: (.low, 80) :: (.high, 80) :: nominalBits f 40 ++ [(.low, 50)]
  tail := some .high

end Sys2Proof.Machine
end

