-- ==== Sys2Proof/Safety.lean ====
section
/-! DEFINITION. The terms claims are stated in: the invariant of the reachable states (10_state.md R42, R43, R46), the canonical
idle, the edges of the phase graph (R41), the durations of 70_reset_and_hazards.md R252, and the host's duties (R244 to R247). -/

namespace Sys2Proof

namespace Machine

/-- The line is output-high (10_state.md R43). -/
abbrev Engine.LineHigh (S : Engine) : Prop := S.lineDir = .output ∧ S.lineOut = .high

/-- The line is output-low (10_state.md R43). -/
abbrev Engine.LineLow (S : Engine) : Prop := S.lineDir = .output ∧ S.lineOut = .low

/-- The line is an input, last driven high (10_state.md R43). -/
abbrev Engine.LineInput (S : Engine) : Prop := S.lineDir = .input ∧ S.lineOut = .high

/-- Canonical idle (10_state.md R42, 00_scope.md R17). -/
abbrev Engine.CanonicalIdle (S : Engine) : Prop :=
  S.phase = .idle ∧ S.tmr = 0 ∧ S.iter = 0 ∧ S.bitn = 0 ∧ S.shreg = 0 ∧ S.LineHigh

/-- No result: the three result elements are 0 (10_state.md R28). -/
abbrev Engine.NoResult (S : Engine) : Prop := S.raw = 0 ∧ S.humTenths = 0 ∧ S.tempTenths = 0

/-- No outcome: `done = 0`, and with it no code and no result (10_state.md R27, R28). -/
abbrev Engine.NoOutcome (S : Engine) : Prop := S.done = false ∧ S.err = none ∧ S.NoResult

/-- A polling phase's counters: `iter` in 0 to `N` (10_state.md R24), `tmr` below `P_POLL`, and 0 before the first sample. -/
abbrev Engine.PollCounters (c : Config) (n : BitVec 8) (S : Engine) : Prop :=
  S.iter.toNat ≤ n.toNat ∧ S.tmr.toNat < c.pPoll.toNat ∧ (S.iter = 0 → S.tmr = 0)

/-- No bit sampled yet. -/
abbrev Engine.NoBits (S : Engine) : Prop := S.bitn = 0 ∧ S.shreg = 0

/-- `n` bits sampled: `bitn = n`, and `shreg[39:n] = 0` (43_bit_readout.md R168). -/
abbrev Engine.AssembledBelow (S : Engine) : Prop := S.shreg.toNat < 2 ^ S.bitn.toNat

/-- The outcome an idle engine holds: none yet; a failure, with no result; or a success, whose frame has a matching checksum and whose
reading is that frame's (10_state.md R27, R28; 44_finalize_decode.md R181). -/
abbrev Engine.OutcomeOfIdle (S : Engine) : Prop :=
  (S.done = false → S.err = none) ∧ (S.done = false ∨ S.err ≠ none → S.NoResult) ∧
  (S.done = true → S.err = none →
    checksumMatches S.raw = true ∧ S.humTenths = humidityRaw S.raw ∧ S.tempTenths = signMagToTwos (temperatureRaw S.raw))

/-- What the rules keep true of the engine's elements, phase by phase (10_state.md R22, R24, R27, R28, R42, R43, R46;
43_bit_readout.md R168; 44_finalize_decode.md R180). -/
def Engine.Inv (c : Config) (S : Engine) : Prop :=
  match S.phase with
  | .idle => S.LineHigh ∧ S.NoBits ∧ S.tmr = 0 ∧ S.iter = 0 ∧ S.OutcomeOfIdle
  | .startLow => S.NoOutcome ∧ S.LineLow ∧ S.NoBits ∧ S.iter = 0 ∧ S.tmr.toNat < c.tStartLow.toNat
  | .startHigh => S.NoOutcome ∧ S.LineHigh ∧ S.NoBits ∧ S.iter = 0 ∧ S.tmr.toNat < c.tStartHigh.toNat
  | .awaitResponse => S.NoOutcome ∧ S.LineInput ∧ S.NoBits ∧ S.PollCounters c c.nResponse
  | .awaitAck => S.NoOutcome ∧ S.LineInput ∧ S.NoBits ∧ S.PollCounters c c.nAck
  | .awaitDataStart => S.NoOutcome ∧ S.LineInput ∧ S.NoBits ∧ S.PollCounters c c.nDataStart
  | .bitWaitHigh => S.NoOutcome ∧ S.LineInput ∧ S.bitn.toNat < 40 ∧ S.AssembledBelow ∧ S.PollCounters c c.nBitHigh
  | .bitSampleDelay =>
    S.NoOutcome ∧ S.LineInput ∧ S.bitn.toNat < 40 ∧ S.AssembledBelow ∧ S.iter = 0 ∧ S.tmr.toNat < c.tSample.toNat
  | .bitWaitLow =>
    S.NoOutcome ∧ S.LineInput ∧ 1 ≤ S.bitn.toNat ∧ S.bitn.toNat ≤ 40 ∧ S.AssembledBelow ∧ S.PollCounters c c.nBitLow
  | .finalize => S.NoOutcome ∧ S.LineInput ∧ S.bitn = 40 ∧ S.tmr = 0 ∧ S.iter = 0

/-- The host operation is a write of START to CTRL (30_encoding.md R90, R97). -/
def hostOpIsStart : HostOp → Bool
  | .command w => commandIsStart w
  | .access sel v => decide (sel = 0x100) && commandIsStart v
  | .wait _ => false
  | .waitDone => false
  | .rst _ => false

/-- The table of the five polling phases (30_encoding.md R83): phase, target level, samples allowed, failure. -/
def pollTable (c : Config) : List (Phase × Level × BitVec 8 × ErrorKind) :=
  [(.awaitResponse, .low, c.nResponse, .noResponse), (.awaitAck, .high, c.nAck, .noAck),
   (.awaitDataStart, .low, c.nDataStart, .noDataStart), (.bitWaitHigh, .high, c.nBitHigh, .bitTimeout),
   (.bitWaitLow, .low, c.nBitLow, .bitTimeout)]

/-- The phase after a polling phase has seen its target level, with `bitn` bits sampled (10_state.md R41). -/
def phaseAfterTarget (bitn : BitVec 6) : Phase → Phase
  | .awaitResponse => .awaitAck
  | .awaitAck => .awaitDataStart
  | .awaitDataStart => .bitWaitHigh
  | .bitWaitHigh => .bitSampleDelay
  | .bitWaitLow => if bitn = 40 then .finalize else .bitWaitHigh
  | p => p

/-- The machine's invariant: legal parameters (70_reset_and_hazards.md R245) and the engine's. -/
structure State.Inv (s : State) : Prop where
  legal : s.config.Legal
  engine : s.engine.Inv s.config

end Machine

/-- `A(N)`: the longest successful stay in a polling phase (70_reset_and_hazards.md R252). -/
def Config.longestStay (c : Config) (n : BitVec 8) : Nat := (n.toNat - 1) * c.pPoll.toNat + 1

/-- `B`: the longest successful bit pass (70_reset_and_hazards.md R252). -/
def Config.longestPass (c : Config) : Nat := c.longestStay c.nBitHigh + c.tSample.toNat + c.longestStay c.nBitLow

/-- `m - k`: the ticks from an accepted START to the first input tick (42_start_handshake.md R142). -/
def Config.startPulse (c : Config) : Nat := c.tStartLow.toNat + c.tStartHigh.toNat

/-- The longest failure, the bound of any transaction (70_reset_and_hazards.md R252). -/
def Config.longestTransaction (c : Config) : Nat :=
  c.startPulse + c.longestStay c.nResponse + c.longestStay c.nAck + c.longestStay c.nDataStart +
    39 * c.longestPass + c.longestStay c.nBitHigh + c.tSample.toNat + c.nBitLow.toNat * c.pPoll.toNat + 1

/-- The longest success (70_reset_and_hazards.md R252). -/
def Config.longestSuccess (c : Config) : Nat :=
  c.startPulse + c.longestStay c.nResponse + c.longestStay c.nAck + c.longestStay c.nDataStart + 40 * c.longestPass + 1

/-- The shortest success (70_reset_and_hazards.md R252). -/
def Config.shortestSuccess (c : Config) : Nat := c.startPulse + 3 + 40 * (c.tSample.toNat + 2) + 1

/-- The stabilisation duty (70_reset_and_hazards.md R244, R246), a premise of claims about a first reading: reset released at tick
`released`, START at tick `started`. The engine does not check it. -/
abbrev Config.StabilisationKept (c : Config) (released started : Nat) : Prop := released + c.tStabilize ≤ started

/-- The quiet period (70_reset_and_hazards.md R247), a premise of claims about a later reading: the last transaction ended at tick
`ended`, START at tick `started`. The engine does not check it. -/
abbrev Config.QuietKept (c : Config) (ended started : Nat) : Prop := ended + c.tQuiet ≤ started

end Sys2Proof
end

