-- ==== Sys2Proof/Certificates/Slice0/Obligations.lean ====
section
/-! DEFINITION. The statements for the provers, from the numbered rules of spec/. -/

open Sys2Proof Sys2Proof.Machine

/-! Encoding (30_encoding.md). -/

/-- R88 to R91, R94: every operation's word decodes to it (RestoreIdle's, which is DriveHigh's word, to DriveHigh: R89), and every
word that decodes is the word of the operation it decodes to, the data lines of a read apart. -/
def Obligations.DecodeAndEncodeAgree : Prop :=
  (∀ i : Instr, decode (encode i) = .ok i.canonical) ∧
  (∀ (w : OpWord) (i : Instr), decode w = .ok i → encode i = w.dropReadData)

/-- R62, R63, R94, R96: the words that are no operation are exactly the register selects that name no word slot, the phase codes
10 to 15 and the line code 0 0; no command word is illegal. -/
def Obligations.RejectedWordsAreTheReservedOnes : Prop :=
  (∀ (sel : BitVec 9) (v : Word), (∃ e, decode (.reg sel v) = .error e) ↔ ¬ SlotSelect sel) ∧
  (∀ code : BitVec 4, (∃ e, decode (.phase code) = .error e) ↔ 10 ≤ code.toNat) ∧
  (∀ code : BitVec 2, (∃ e, decode (.line code) = .error e) ↔ code = 0) ∧
  (∀ w : Word, ∃ i, decode (.cmd w) = .ok i)

/-- Words written out from the tables of R88 to R91 decode to their operations. -/
def Obligations.TableWordsDecode : Prop :=
  decodeTableWord 32 0b00000000000000000000000000000001 = some (.start 0) ∧
  decodeTableWord 32 0xFFFFFFFE = some (.nop 0x7FFFFFFF) ∧
  decodeTableWord 9 0b100000000 = some (.wrCtrl 0) ∧
  decodeTableWord 9 0b000000100 = some .rdStatus ∧
  decodeTableWord 16 0b000010000 = some .rdReading ∧
  decodeTableWord 16 0b100001100 = some (.wrRaw1 0) ∧
  decodeTableWord 4 0b0011 = some .awaitResponse ∧
  decodeTableWord 8 0b1001 = some .finalize ∧
  decodeTableWord 4 0b1010 = none ∧
  decodeTableWord 2 0b10 = some .driveLow ∧
  decodeTableWord 2 0b01 = some .release

/-- R87, R88: the codes of the phases and of the ErrorKinds, as STATUS shows them. -/
def Obligations.CodesOfPhasesAndErrors : Prop :=
  [Phase.idle, .startLow, .startHigh, .awaitResponse, .awaitAck, .awaitDataStart, .bitWaitHigh, .bitSampleDelay, .bitWaitLow,
    .finalize].map Phase.code = [0, 1, 2, 3, 4, 5, 6, 7, 8, 9] ∧
  [none, some ErrorKind.noResponse, some .noAck, some .noDataStart, some .bitTimeout, some .checksumMismatch].map errCode =
    [0, 1, 2, 3, 4, 5]

/-! Host operations (40_host_commands.md). -/

/-- R110: START in IDLE, by the command or by a write to CTRL with bit 0 = 1, whatever bits 31:1 are: every element takes the value
the rule gives, nothing else changes, and STATUS reads 0x01000101. -/
def Obligations.StartAcceptedInIdle : Prop :=
  ∀ s : State, s.engine.phase = .idle →
    let t : State := { s with engine :=
      { phase := .startLow, bitn := 0, tmr := s.config.tStartLow - 1, iter := 0, shreg := 0, lineDir := .output, lineOut := .low,
        done := false, err := none, raw := 0, humTenths := 0, tempTenths := 0 } }
    (∀ r, exec (.start r) s = .next t) ∧ (∀ v : Word, v.getLsbD 0 = true → exec (.wrCtrl v) s = .next t) ∧
    statusWord t.engine = 0x01000101

/-- R111: START while busy changes nothing. -/
def Obligations.StartIgnoredWhileBusy : Prop :=
  ∀ s : State, s.engine.phase ≠ .idle →
    (∀ r, exec (.start r) s = .next s) ∧ (∀ v : Word, v.getLsbD 0 = true → exec (.wrCtrl v) s = .next s)

/-- R112: NOP, and a write to CTRL with bit 0 = 0, change nothing in any phase. -/
def Obligations.NopChangesNothing : Prop :=
  ∀ s : State, (∀ r, exec (.nop r) s = .next s) ∧ (∀ v : Word, v.getLsbD 0 = false → exec (.wrCtrl v) s = .next s)

/-- R119: a write to a read-only or reserved slot changes nothing. -/
def Obligations.ReadOnlySlotsIgnoreWrites : Prop :=
  ∀ (v : Word) (s : State),
    exec (.wrStatus v) s = .next s ∧ exec (.wrRaw0 v) s = .next s ∧ exec (.wrRaw1 v) s = .next s ∧
    exec (.wrReading v) s = .next s ∧ exec (.wrReserved14 v) s = .next s ∧ exec (.wrReserved18 v) s = .next s ∧
    exec (.wrReserved1C v) s = .next s

/-- R113, R118: CTRL and the reserved slots read 0, and reading them has no side effect. -/
def Obligations.CtrlAndReservedSlotsReadZero : Prop :=
  ∀ s : State,
    exec .rdCtrl s = .next { s with rdata := 0 } ∧ exec .rdReserved14 s = .next { s with rdata := 0 } ∧
    exec .rdReserved18 s = .next { s with rdata := 0 } ∧ exec .rdReserved1C s = .next { s with rdata := 0 }

/-- R33, R114: RD STATUS returns the fields of R33, reserved bits 0, and has no side effect. -/
def Obligations.RdStatusReturnsTheFields : Prop :=
  ∀ s : State, ∃ w : Word, exec .rdStatus s = .next { s with rdata := w } ∧
    w.getLsbD 0 = decide (s.engine.phase ≠ .idle) ∧ w.getLsbD 1 = s.engine.done ∧
    w.getLsbD 2 = (s.engine.done && decide (s.engine.err = none)) ∧
    w.extractLsb' 4 3 = errCode s.engine.err ∧ w.extractLsb' 8 4 = s.engine.phase.code ∧ w.extractLsb' 16 6 = s.engine.bitn ∧
    w.getLsbD 24 = decide (s.engine.lineDir = .output) ∧ w.getLsbD 25 = decide (s.engine.lineOut = .high) ∧
    w.getLsbD 3 = false ∧ w.getLsbD 7 = false ∧ w.extractLsb' 12 4 = 0 ∧ w.extractLsb' 22 2 = 0 ∧ w.extractLsb' 26 6 = 0

/-- R34 to R36, R115 to R117: RD RAW0 returns the frame's bytes 0 to 3, RD RAW1 byte 4, RD READING the tenths of humidity and of
temperature, and none has a side effect. -/
def Obligations.ResultReadsReturnTheResults : Prop :=
  ∀ s : State, ∃ w0 w1 w2 : Word,
    exec .rdRaw0 s = .next { s with rdata := w0 } ∧ w0.toNat = s.engine.raw.toNat / 256 ∧
    exec .rdRaw1 s = .next { s with rdata := w1 } ∧ w1.toNat = s.engine.raw.toNat % 256 ∧
    exec .rdReading s = .next { s with rdata := w2 } ∧
    w2.toNat = s.engine.humTenths.toNat * 65536 + s.engine.tempTenths.toNat

/-- R62, R63, R68: an access to a word slot always succeeds, at its boundary (no tick passes, the sensor does not move on), whether
`rst` is asserted or not; at any other offset it is refused (as log entry 9 takes R63). -/
def Obligations.AccessSucceedsExactlyAtWordSlots : Prop :=
  ∀ (s : State) (sel : BitVec 9) (v : Word) (rest : List HostOp),
    s.config.Legal → s.host = .access sel v :: rest →
    (SlotSelect sel → ∃ t, step s = .next t ∧ t.tick = s.tick ∧ t.sensor = s.sensor ∧ t.host = rest) ∧
    (¬ SlotSelect sel → step s = .refused (.unsupportedAccess sel))

/-- R72, R111, R112, R119: no host operation of the table disturbs a transaction in flight: every element is as it was, and only the
port `reg_rdata` may change. -/
def Obligations.HostCannotDisturbATransaction : Prop :=
  ∀ (i : Instr) (s : State), i.row.format = .cmd ∨ i.row.format = .reg → s.engine.phase ≠ .idle →
    ∃ w, exec i s = .next { s with rdata := w }

/-- R25, R216: the partial frame and the counters cannot be read: whatever they are, every read returns the same word. -/
def Obligations.PartialFrameAndCountersAreUnreadable : Prop :=
  ∀ i ∈ [Instr.rdCtrl, .rdStatus, .rdRaw0, .rdRaw1, .rdReading, .rdReserved14, .rdReserved18, .rdReserved1C],
  ∀ (s : State) (shreg : Frame) (tmr : BitVec 16) (iter : BitVec 8),
    let u : State := { s with engine := { s.engine with shreg := shreg, tmr := tmr, iter := iter } }
    ∃ w, exec i s = .next { s with rdata := w } ∧ exec i u = .next { u with rdata := w }

/-! The line driver (41_line_driver.md). -/

/-- R126 to R129: what each line-driver operation writes, and that it writes nothing else. -/
def Obligations.LineDriverOperationsWriteTheLine : Prop :=
  ∀ s : State,
    exec .driveLow s = .next { s with engine := { s.engine with lineDir := .output, lineOut := .low } } ∧
    exec .driveHigh s = .next { s with engine := { s.engine with lineDir := .output, lineOut := .high } } ∧
    exec .release s = .next { s with engine := { s.engine with lineDir := .input } } ∧
    exec .restoreIdle s = .next { s with engine := { s.engine with lineDir := .output, lineOut := .high } }

/-- R132: Sample's result is the level the sensor script gives this tick, and it writes no element of the engine. -/
def Obligations.SampleReturnsTheSensedLevel : Prop :=
  ∀ s : State, exec .sample s = .next { s with sampled := some (s.sensor.level s.tick) }

/-- R130: the IDLE phase's step changes no element, for either sensed level; a tick passes. -/
def Obligations.IdleStepHolds : Prop :=
  ∀ s : State, s.engine.Encodable →
    exec .idle s = .next { s with tick := s.tick + 1, sensor := s.sensor.advance, sampled := none }

/-! The start pulse and the handshake (42_start_handshake.md). In every statement about a step of format PHASE all elements not named
keep their values; the tick's number and the sensor's script move on, and `sampled` says what the step sampled. -/

/-- R140: one step of START_LOW. -/
def Obligations.StartLowStep : Prop :=
  ∀ s : State, s.engine.Encodable →
    (s.engine.tmr ≠ 0 → exec .startLow s = .next { s with
      engine := { s.engine with tmr := s.engine.tmr - 1 },
      tick := s.tick + 1, sensor := s.sensor.advance, sampled := none }) ∧
    (s.engine.tmr = 0 → exec .startLow s = .next { s with
      engine := { s.engine with
        lineDir := .output, lineOut := .high, phase := .startHigh, tmr := s.config.tStartHigh - 1 },
      tick := s.tick + 1, sensor := s.sensor.advance, sampled := none })

/-- R141: one step of START_HIGH. -/
def Obligations.StartHighStep : Prop :=
  ∀ s : State, s.engine.Encodable →
    (s.engine.tmr ≠ 0 → exec .startHigh s = .next { s with
      engine := { s.engine with tmr := s.engine.tmr - 1 },
      tick := s.tick + 1, sensor := s.sensor.advance, sampled := none }) ∧
    (s.engine.tmr = 0 → exec .startHigh s = .next { s with
      engine := { s.engine with lineDir := .input, phase := .awaitResponse, tmr := 0, iter := 0 },
      tick := s.tick + 1, sensor := s.sensor.advance, sampled := none })

/-- R143, R144, R207: one step of AWAIT_RESPONSE: asleep, timed out, target seen, target not seen. -/
def Obligations.AwaitResponseStep : Prop :=
  ∀ s : State, s.engine.Encodable →
    (s.engine.tmr ≠ 0 → exec .awaitResponse s = .next { s with
      engine := { s.engine with tmr := s.engine.tmr - 1 },
      tick := s.tick + 1, sensor := s.sensor.advance, sampled := none }) ∧
    (s.engine.tmr = 0 → s.engine.iter = s.config.nResponse → exec .awaitResponse s = .next { s with
      engine := { s.engine with
        lineDir := .output, lineOut := .high, err := some .noResponse, done := true, phase := .idle,
        tmr := 0, iter := 0, bitn := 0, shreg := 0 },
      tick := s.tick + 1, sensor := s.sensor.advance, sampled := none }) ∧
    (s.engine.tmr = 0 → s.engine.iter ≠ s.config.nResponse → s.sensed = .low → exec .awaitResponse s = .next { s with
      engine := { s.engine with phase := .awaitAck, tmr := 0, iter := 0 },
      tick := s.tick + 1, sensor := s.sensor.advance, sampled := some .low }) ∧
    (s.engine.tmr = 0 → s.engine.iter ≠ s.config.nResponse → s.sensed = .high → exec .awaitResponse s = .next { s with
      engine := { s.engine with iter := s.engine.iter + 1, tmr := s.config.pPoll.setWidth 16 - 1 },
      tick := s.tick + 1, sensor := s.sensor.advance, sampled := some .high })

/-- R143, R145, R207: one step of AWAIT_ACK. -/
def Obligations.AwaitAckStep : Prop :=
  ∀ s : State, s.engine.Encodable →
    (s.engine.tmr ≠ 0 → exec .awaitAck s = .next { s with
      engine := { s.engine with tmr := s.engine.tmr - 1 },
      tick := s.tick + 1, sensor := s.sensor.advance, sampled := none }) ∧
    (s.engine.tmr = 0 → s.engine.iter = s.config.nAck → exec .awaitAck s = .next { s with
      engine := { s.engine with
        lineDir := .output, lineOut := .high, err := some .noAck, done := true, phase := .idle,
        tmr := 0, iter := 0, bitn := 0, shreg := 0 },
      tick := s.tick + 1, sensor := s.sensor.advance, sampled := none }) ∧
    (s.engine.tmr = 0 → s.engine.iter ≠ s.config.nAck → s.sensed = .high → exec .awaitAck s = .next { s with
      engine := { s.engine with phase := .awaitDataStart, tmr := 0, iter := 0 },
      tick := s.tick + 1, sensor := s.sensor.advance, sampled := some .high }) ∧
    (s.engine.tmr = 0 → s.engine.iter ≠ s.config.nAck → s.sensed = .low → exec .awaitAck s = .next { s with
      engine := { s.engine with iter := s.engine.iter + 1, tmr := s.config.pPoll.setWidth 16 - 1 },
      tick := s.tick + 1, sensor := s.sensor.advance, sampled := some .low })

/-- R143, R146, R207: one step of AWAIT_DATA_START, which clears the bit count and the frame when it sees the low. -/
def Obligations.AwaitDataStartStep : Prop :=
  ∀ s : State, s.engine.Encodable →
    (s.engine.tmr ≠ 0 → exec .awaitDataStart s = .next { s with
      engine := { s.engine with tmr := s.engine.tmr - 1 },
      tick := s.tick + 1, sensor := s.sensor.advance, sampled := none }) ∧
    (s.engine.tmr = 0 → s.engine.iter = s.config.nDataStart → exec .awaitDataStart s = .next { s with
      engine := { s.engine with
        lineDir := .output, lineOut := .high, err := some .noDataStart, done := true, phase := .idle,
        tmr := 0, iter := 0, bitn := 0, shreg := 0 },
      tick := s.tick + 1, sensor := s.sensor.advance, sampled := none }) ∧
    (s.engine.tmr = 0 → s.engine.iter ≠ s.config.nDataStart → s.sensed = .low → exec .awaitDataStart s = .next { s with
      engine := { s.engine with phase := .bitWaitHigh, tmr := 0, iter := 0, bitn := 0, shreg := 0 },
      tick := s.tick + 1, sensor := s.sensor.advance, sampled := some .low }) ∧
    (s.engine.tmr = 0 → s.engine.iter ≠ s.config.nDataStart → s.sensed = .high → exec .awaitDataStart s = .next { s with
      engine := { s.engine with iter := s.engine.iter + 1, tmr := s.config.pPoll.setWidth 16 - 1 },
      tick := s.tick + 1, sensor := s.sensor.advance, sampled := some .high })

/-! The bit loop (43_bit_readout.md). -/

/-- R143, R161, R207: one step of BIT_WAIT_HIGH, which loads `T_SAMPLE - 1` when it sees the high. -/
def Obligations.BitWaitHighStep : Prop :=
  ∀ s : State, s.engine.Encodable →
    (s.engine.tmr ≠ 0 → exec .bitWaitHigh s = .next { s with
      engine := { s.engine with tmr := s.engine.tmr - 1 },
      tick := s.tick + 1, sensor := s.sensor.advance, sampled := none }) ∧
    (s.engine.tmr = 0 → s.engine.iter = s.config.nBitHigh → exec .bitWaitHigh s = .next { s with
      engine := { s.engine with
        lineDir := .output, lineOut := .high, err := some .bitTimeout, done := true, phase := .idle,
        tmr := 0, iter := 0, bitn := 0, shreg := 0 },
      tick := s.tick + 1, sensor := s.sensor.advance, sampled := none }) ∧
    (s.engine.tmr = 0 → s.engine.iter ≠ s.config.nBitHigh → s.sensed = .high → exec .bitWaitHigh s = .next { s with
      engine := { s.engine with phase := .bitSampleDelay, tmr := s.config.tSample - 1, iter := 0 },
      tick := s.tick + 1, sensor := s.sensor.advance, sampled := some .high }) ∧
    (s.engine.tmr = 0 → s.engine.iter ≠ s.config.nBitHigh → s.sensed = .low → exec .bitWaitHigh s = .next { s with
      engine := { s.engine with iter := s.engine.iter + 1, tmr := s.config.pPoll.setWidth 16 - 1 },
      tick := s.tick + 1, sensor := s.sensor.advance, sampled := some .low })

/-- R163: one step of BIT_SAMPLE_DELAY: the sampled level, 1 for high, enters the frame at bit 0, the bit shifted out of bit 39 is
dropped, and the bit count goes up by one. -/
def Obligations.BitSampleDelayStep : Prop :=
  ∀ s : State, s.engine.Encodable →
    (s.engine.tmr ≠ 0 → exec .bitSampleDelay s = .next { s with
      engine := { s.engine with tmr := s.engine.tmr - 1 },
      tick := s.tick + 1, sensor := s.sensor.advance, sampled := none }) ∧
    (s.engine.tmr = 0 → ∃ f : Frame,
      f.toNat = (2 * s.engine.shreg.toNat + (if s.sensed = .high then 1 else 0)) % 2 ^ 40 ∧
      exec .bitSampleDelay s = .next { s with
        engine := { s.engine with
          shreg := f, bitn := s.engine.bitn + 1, phase := .bitWaitLow, tmr := 0, iter := 0 },
        tick := s.tick + 1, sensor := s.sensor.advance, sampled := some s.sensed })

/-- R143, R165, R207: one step of BIT_WAIT_LOW, which goes on to FINALIZE after the fortieth bit's low and to the next bit after any
other. -/
def Obligations.BitWaitLowStep : Prop :=
  ∀ s : State, s.engine.Encodable →
    (s.engine.tmr ≠ 0 → exec .bitWaitLow s = .next { s with
      engine := { s.engine with tmr := s.engine.tmr - 1 },
      tick := s.tick + 1, sensor := s.sensor.advance, sampled := none }) ∧
    (s.engine.tmr = 0 → s.engine.iter = s.config.nBitLow → exec .bitWaitLow s = .next { s with
      engine := { s.engine with
        lineDir := .output, lineOut := .high, err := some .bitTimeout, done := true, phase := .idle,
        tmr := 0, iter := 0, bitn := 0, shreg := 0 },
      tick := s.tick + 1, sensor := s.sensor.advance, sampled := none }) ∧
    (s.engine.tmr = 0 → s.engine.iter ≠ s.config.nBitLow → s.sensed = .low → exec .bitWaitLow s = .next { s with
      engine := { s.engine with
        phase := if s.engine.bitn = 40 then .finalize else .bitWaitHigh, tmr := 0, iter := 0 },
      tick := s.tick + 1, sensor := s.sensor.advance, sampled := some .low }) ∧
    (s.engine.tmr = 0 → s.engine.iter ≠ s.config.nBitLow → s.sensed = .high → exec .bitWaitLow s = .next { s with
      engine := { s.engine with iter := s.engine.iter + 1, tmr := s.config.pPoll.setWidth 16 - 1 },
      tick := s.tick + 1, sensor := s.sensor.advance, sampled := some .high })

/-! FINALIZE and the arithmetic (44_finalize_decode.md). -/

/-- R181: the one step of FINALIZE, on a matching and on a differing checksum. -/
def Obligations.FinalizeStep : Prop :=
  ∀ s : State, s.engine.Encodable →
    let f := s.engine.shreg
    let sum := ((byte0 f).toNat + (byte1 f).toNat + (byte2 f).toNat + (byte3 f).toNat) % 256
    (sum = (byte4 f).toNat → exec .finalize s = .next { s with
      engine := { s.engine with
        lineDir := .output, lineOut := .high, raw := f, humTenths := byte0 f ++ byte1 f,
        tempTenths := signMagToTwos (byte2 f ++ byte3 f), err := none, done := true, phase := .idle,
        tmr := 0, iter := 0, bitn := 0, shreg := 0 },
      tick := s.tick + 1, sensor := s.sensor.advance, sampled := none }) ∧
    (sum ≠ (byte4 f).toNat → exec .finalize s = .next { s with
      engine := { s.engine with
        lineDir := .output, lineOut := .high, err := some .checksumMismatch, done := true, phase := .idle,
        tmr := 0, iter := 0, bitn := 0, shreg := 0 },
      tick := s.tick + 1, sensor := s.sensor.advance, sampled := none })

/-- R84, R92: the five bytes of a frame, byte 0 the most significant. -/
def Obligations.FrameIsItsFiveBytes : Prop :=
  ∀ f : Frame, f.toNat =
    ((((byte0 f).toNat * 256 + (byte1 f).toNat) * 256 + (byte2 f).toNat) * 256 + (byte3 f).toNat) * 256 + (byte4 f).toNat

/-- R183: a frame decodes to Success exactly when its checksum matches, and a mismatch is exactly ChecksumMismatch with no Reading
produced; for every choice of the four data bytes there is exactly one frame that succeeds. -/
def Obligations.ChecksumDecidesSuccess : Prop :=
  (∀ s : State, s.engine.Encodable → s.engine.NoResult → ∃ t, exec .finalize s = .next t ∧
    (((byte0 s.engine.shreg).toNat + (byte1 s.engine.shreg).toNat + (byte2 s.engine.shreg).toNat +
        (byte3 s.engine.shreg).toNat) % 256 = (byte4 s.engine.shreg).toNat →
      t.engine.outcome = some (.success ⟨t.engine.humTenths, t.engine.tempTenths⟩)) ∧
    (((byte0 s.engine.shreg).toNat + (byte1 s.engine.shreg).toNat + (byte2 s.engine.shreg).toNat +
        (byte3 s.engine.shreg).toNat) % 256 ≠ (byte4 s.engine.shreg).toNat →
      t.engine.outcome = some (.failure .checksumMismatch) ∧ t.engine.NoResult)) ∧
  (∀ b0 b1 b2 b3 : Byte, ∃! f : Frame,
    byte0 f = b0 ∧ byte1 f = b1 ∧ byte2 f = b2 ∧ byte3 f = b3 ∧
    ∀ s : State, s.engine.Encodable → s.engine.shreg = f →
      ∃ t, exec .finalize s = .next t ∧ t.engine.done = true ∧ t.engine.err = none)

/-- R186, R187: the sign-magnitude conversion, as numbers, exactly; 0x8000 is never produced. -/
def Obligations.SignMagnitudeBecomesTwosComplement : Prop :=
  ∀ t : BitVec 16,
    (signMagToTwos t).toInt = (if t.getLsbD 15 then -((t.toNat % 32768 : Nat) : Int) else (t.toNat : Int)) ∧
    signMagToTwos t ≠ 0x8000

/-- R85, R186, R188: what READING says after a success, as numbers of tenths read from the frame. -/
def Obligations.SuccessfulReadingAsNumbers : Prop :=
  ∀ s : State, s.Inv → s.engine.done = true → s.engine.err = none →
    let r : Reading := ⟨s.engine.humTenths, s.engine.tempTenths⟩
    let temp := (byte2 s.engine.raw).toNat * 256 + (byte3 s.engine.raw).toNat
    r.humidity = (((byte0 s.engine.raw).toNat * 256 + (byte1 s.engine.raw).toNat : Nat) : ℚ) / 10 ∧
    r.temperature = (if 32768 ≤ temp then -(((temp - 32768 : Nat) : ℚ) / 10) else ((temp : Nat) : ℚ) / 10)

/-! Where the spec gives no meaning. -/

/-- R96: a step from `bitn` above 40 or from the line code 0 0 is a fault, in every phase. The rule leaves a model the choice;
this is log entry 5's. -/
def Obligations.UnreachableCodesFault : Prop :=
  ∀ (i : Instr) (s : State), i.row.format = .phase → ¬ s.engine.Encodable → exec i s = .fault .unreachableCode

/-- R245 (and U9): the machine refuses to run with a configuration that is not legal: a parameter outside its range, or `T_SAMPLE`
not strictly between the sensor's pulse widths. That the refusal is its step's is log entry 4, where the widths stand log entry
22. -/
def Obligations.IllegalParametersAreRefused : Prop :=
  ∀ s : State, ¬ s.config.Legal → step s = .refused .illegalConfiguration

/-! The machine's step. -/

/-- R40, R68, R91, R97: a step runs the decoded operation: the host's next one at this boundary if there is one, and otherwise, or
under WAIT, the one the phase code decodes to. -/
def Obligations.StepRunsTheDecodedOperation : Prop :=
  ∀ s : State, s.config.Legal → s.rst = false →
    (∀ w rest, s.host = .command w :: rest → ∀ i, decode (.cmd w) = .ok i → step s = exec i (s.withHost rest)) ∧
    (∀ sel v rest, s.host = .access sel v :: rest → ∀ i, decode (.reg sel v) = .ok i → step s = exec i (s.withHost rest)) ∧
    (s.host = [] → ∀ i, decode (.phase s.engine.phase.code) = .ok i → step s = exec i s) ∧
    (∀ n rest, s.host = .wait (n + 1) :: rest → ∀ i, decode (.phase s.engine.phase.code) = .ok i →
      step s = exec i (s.withHost (if n = 0 then rest else .wait n :: rest))) ∧
    (∃ i, decode (.phase s.engine.phase.code) = .ok i)

/-- The model's own (log entry 11): a table word placed by withFetchWord runs as the very next operation, for every word the decoder
accepts in the formats CMD, REG and PHASE. -/
def Obligations.PlacedWordIsTheNextOperation : Prop :=
  ∀ (s : State) (nbits w : Nat) (i : Instr), s.config.Legal → nbits = 32 ∨ nbits = 16 ∨ nbits = 8 →
    decodeTableWord nbits w = some i →
    ∃ u, step (s.withFetchWord nbits w) = exec i u ∧ u.host = s.host ∧ u.config = s.config ∧ u.tick = s.tick ∧
      u.sensor = s.sensor ∧ u.rdata = s.rdata ∧ u.rst = false ∧ u.sampled = s.sampled ∧ u.engine = { s.engine with phase := u.engine.phase } ∧
      (nbits ≠ 8 → u.engine = s.engine)

/-- R45: the reset values, and what the registers read after reset. -/
def Obligations.ResetValues : Prop :=
  let S := State.reset.engine
  (S.phase = .idle ∧ S.bitn = 0 ∧ S.tmr = 0 ∧ S.iter = 0 ∧ S.shreg = 0 ∧ S.lineDir = .output ∧ S.lineOut = .high ∧
    S.done = false ∧ S.err = none ∧ S.raw = 0 ∧ S.humTenths = 0 ∧ S.tempTenths = 0) ∧
  exec .rdStatus State.reset = .next { State.reset with rdata := 0x03000000 } ∧
  exec .rdRaw0 State.reset = .next { State.reset with rdata := 0 } ∧
  exec .rdRaw1 State.reset = .next { State.reset with rdata := 0 } ∧
  exec .rdReading State.reset = .next { State.reset with rdata := 0 } ∧
  exec .rdCtrl State.reset = .next { State.reset with rdata := 0 }

/-- R240: asserting `rst` puts every element at its reset value whatever the phase, and while it stays asserted, and at its
release, no engine step and no host access takes effect: the elements stay there. Those values are the canonical idle with no
outcome, STATUS = 0x03000000. That an access to a word slot is then dropped in a step that answers a next state, and that reg_rdata
keeps its value, is the model's choice (log entry 6). -/
def Obligations.ResetOverridesEverything : Prop :=
  (∀ s : State, s.config.Legal →
    (∀ rest, s.host = .rst true :: rest →
      step s = .next { s with host := rest, rst := true, engine := Engine.reset }) ∧
    (s.rst = true → (∀ sel v rest, s.host = .access sel v :: rest → SlotSelect sel) →
      ∃ t, step s = .next t ∧ t.engine = Engine.reset ∧ t.rdata = s.rdata ∧ t.config = s.config)) ∧
  Engine.reset.CanonicalIdle ∧ Engine.reset.NoOutcome ∧ statusWord Engine.reset = 0x03000000

/-- R245, R30, R68: no step changes a parameter, and a step takes at most one tick. -/
def Obligations.ParametersAreConstantAndTimeIsTicks : Prop :=
  ∀ s t : State, step s = .next t →
    t.config = s.config ∧ ((t.tick = s.tick ∧ t.sensor = s.sensor) ∨ (t.tick = s.tick + 1 ∧ t.sensor = s.sensor.advance))

/-! The invariant of the machine. -/

/-- The invariant holds after reset (R45, R42). -/
def Obligations.InvariantHoldsAtReset : Prop := State.reset.Inv

/-- R22, R24, R27, R28, R42, R43, R46, R168: every step keeps the invariant, in every state that has it (R42, R43, R46
and R168 are inferences of the spec, "derived"). -/
def Obligations.EveryStepKeepsTheInvariant : Prop :=
  ∀ s t : State, s.Inv → step s = .next t → t.Inv

/-- R40, R62, R63, R96: from a state with the invariant every step has a next state, but for a host access at an offset that is no
word slot. -/
def Obligations.InvariantStatesAlwaysStep : Prop :=
  ∀ s : State, s.Inv → (∃ t, step s = .next t) ∨
    (∃ sel v rest, s.host = .access sel v :: rest ∧ ¬ SlotSelect sel ∧
      step s = .refused (.unsupportedAccess sel))

/-- R42 (an inference of the spec, "derived"): in every state reached from reset, by any host program, under any sensor and any
legal parameters, IDLE is the canonical idle. -/
def Obligations.IdleIsCanonicalWhenReached : Prop :=
  ∀ (s t : State) (n : Nat), s.config.Legal → s.engine = Engine.reset → Host.Core.run Sys2Proof.core n s = .next t →
    t.engine.phase = .idle →
      t.engine.tmr = 0 ∧ t.engine.iter = 0 ∧ t.engine.bitn = 0 ∧ t.engine.shreg = 0 ∧ t.engine.lineDir = .output ∧
      t.engine.lineOut = .high

/-- R43 (an inference of the spec, "derived"): the line's state in each phase, in every state reached from reset, by any host
program, under any sensor and any legal parameters. -/
def Obligations.LineStateByPhaseWhenReached : Prop :=
  ∀ (s t : State) (n : Nat), s.config.Legal → s.engine = Engine.reset → Host.Core.run Sys2Proof.core n s = .next t →
    (t.engine.phase = .idle → t.engine.lineDir = .output ∧ t.engine.lineOut = .high) ∧
    (t.engine.phase = .startLow → t.engine.lineDir = .output ∧ t.engine.lineOut = .low) ∧
    (t.engine.phase = .startHigh → t.engine.lineDir = .output ∧ t.engine.lineOut = .high) ∧
    (t.engine.phase ≠ .idle → t.engine.phase ≠ .startLow → t.engine.phase ≠ .startHigh →
      t.engine.lineDir = .input ∧ t.engine.lineOut = .high) ∧
    (t.engine.lineDir = .output → t.engine.lineOut = .low → t.engine.phase = .startLow) ∧
    (∀ u l, step t = .next u → u.tick = t.tick + 1 → u.sampled = some l → t.engine.lineDir = .input)

/-! Rules about the whole machine. -/

/-- R41 and R240: no step changes the phase except along the edges of R41's table, under their conditions, or by reset. -/
def Obligations.PhaseChangesOnlyAlongTheEdges : Prop :=
  ∀ s t : State, s.Inv → step s = .next t → t.engine.phase ≠ s.engine.phase →
    let S := s.engine
    let T := t.engine
    (T = Engine.reset ∧ (s.rst = true ∨ s.host.head? = some (.rst true))) ∨
    (S.phase = .idle ∧ T.phase = .startLow ∧ ∃ op, s.host.head? = some op ∧ hostOpIsStart op = true) ∨
    (S.tmr = 0 ∧
      ((S.phase = .startLow ∧ T.phase = .startHigh) ∨
       (S.phase = .startHigh ∧ T.phase = .awaitResponse) ∨
       (S.phase = .awaitResponse ∧ S.iter = s.config.nResponse ∧ T.phase = .idle ∧ T.err = some .noResponse) ∨
       (S.phase = .awaitResponse ∧ S.iter ≠ s.config.nResponse ∧ s.sensed = .low ∧ T.phase = .awaitAck) ∨
       (S.phase = .awaitAck ∧ S.iter = s.config.nAck ∧ T.phase = .idle ∧ T.err = some .noAck) ∨
       (S.phase = .awaitAck ∧ S.iter ≠ s.config.nAck ∧ s.sensed = .high ∧ T.phase = .awaitDataStart) ∨
       (S.phase = .awaitDataStart ∧ S.iter = s.config.nDataStart ∧ T.phase = .idle ∧ T.err = some .noDataStart) ∨
       (S.phase = .awaitDataStart ∧ S.iter ≠ s.config.nDataStart ∧ s.sensed = .low ∧ T.phase = .bitWaitHigh) ∨
       (S.phase = .bitWaitHigh ∧ S.iter = s.config.nBitHigh ∧ T.phase = .idle ∧ T.err = some .bitTimeout) ∨
       (S.phase = .bitWaitHigh ∧ S.iter ≠ s.config.nBitHigh ∧ s.sensed = .high ∧ T.phase = .bitSampleDelay) ∨
       (S.phase = .bitSampleDelay ∧ T.phase = .bitWaitLow) ∨
       (S.phase = .bitWaitLow ∧ S.iter = s.config.nBitLow ∧ T.phase = .idle ∧ T.err = some .bitTimeout) ∨
       (S.phase = .bitWaitLow ∧ S.iter ≠ s.config.nBitLow ∧ s.sensed = .low ∧ S.bitn ≠ 40 ∧ T.phase = .bitWaitHigh) ∨
       (S.phase = .bitWaitLow ∧ S.iter ≠ s.config.nBitLow ∧ s.sensed = .low ∧ S.bitn = 40 ∧ T.phase = .finalize) ∨
       (S.phase = .finalize ∧ T.phase = .idle ∧ (T.err = none ∨ T.err = some .checksumMismatch))))

/-- R221 (an inference of the spec, "derived"): which step decides each outcome, and what STATUS reads after it. -/
def Obligations.ClassifierDecidesEachOutcome : Prop :=
  ∀ s t : State, s.Inv → step s = .next t → s.engine.done = false → t.engine.done = true →
    let S := s.engine
    let T := t.engine
    (S.phase = .awaitResponse ∧ S.tmr = 0 ∧ S.iter = s.config.nResponse ∧ T.outcome = some (.failure .noResponse) ∧
      errCode T.err = 1 ∧ statusWord T = 0x03000012) ∨
    (S.phase = .awaitAck ∧ S.tmr = 0 ∧ S.iter = s.config.nAck ∧ T.outcome = some (.failure .noAck) ∧
      errCode T.err = 2 ∧ statusWord T = 0x03000022) ∨
    (S.phase = .awaitDataStart ∧ S.tmr = 0 ∧ S.iter = s.config.nDataStart ∧ T.outcome = some (.failure .noDataStart) ∧
      errCode T.err = 3 ∧ statusWord T = 0x03000032) ∨
    (S.phase = .bitWaitHigh ∧ S.tmr = 0 ∧ S.iter = s.config.nBitHigh ∧ T.outcome = some (.failure .bitTimeout) ∧
      errCode T.err = 4 ∧ statusWord T = 0x03000042) ∨
    (S.phase = .bitWaitLow ∧ S.tmr = 0 ∧ S.iter = s.config.nBitLow ∧ T.outcome = some (.failure .bitTimeout) ∧
      errCode T.err = 4 ∧ statusWord T = 0x03000042) ∨
    (S.phase = .finalize ∧ checksum S.shreg ≠ byte4 S.shreg ∧ T.outcome = some (.failure .checksumMismatch) ∧
      errCode T.err = 5 ∧ statusWord T = 0x03000052) ∨
    (S.phase = .finalize ∧ checksum S.shreg = byte4 S.shreg ∧
      T.outcome = some (.success ⟨humidityRaw S.shreg, signMagToTwos (temperatureRaw S.shreg)⟩) ∧
      errCode T.err = 0 ∧ statusWord T = 0x03000006)

/-- R69, R130, R210: an idle engine, with its outcome, changes only by reset or by an accepted START of the host. -/
def Obligations.OutcomeStandsUntilStartOrReset : Prop :=
  ∀ s t : State, s.engine.phase = .idle → step s = .next t → t.engine ≠ s.engine →
    (t.engine = Engine.reset ∧ (s.rst = true ∨ s.host.head? = some (.rst true))) ∨
    (t.engine.phase = .startLow ∧ t.engine.NoOutcome ∧ s.rst = false ∧
      ∃ op, s.host.head? = some op ∧ hostOpIsStart op = true)

/-- R40, R132: a step samples only in phases 3 to 8, only with `tmr = 0` and, in a polling phase, `iter != N`; what it samples is
the level sensed in its tick. -/
def Obligations.SamplesOnlyWhenDue : Prop :=
  ∀ (s t : State) (l : Level), step s = .next t → t.tick = s.tick + 1 → t.sampled = some l →
    l = s.sensed ∧ s.engine.tmr = 0 ∧
    ((s.engine.phase = .awaitResponse ∧ s.engine.iter ≠ s.config.nResponse) ∨
     (s.engine.phase = .awaitAck ∧ s.engine.iter ≠ s.config.nAck) ∨
     (s.engine.phase = .awaitDataStart ∧ s.engine.iter ≠ s.config.nDataStart) ∨
     (s.engine.phase = .bitWaitHigh ∧ s.engine.iter ≠ s.config.nBitHigh) ∨
     s.engine.phase = .bitSampleDelay ∨
     (s.engine.phase = .bitWaitLow ∧ s.engine.iter ≠ s.config.nBitLow))

/-- R40: in a step that does not sample, the result does not depend on the sensed level: two machines that differ in nothing but the
sensor, whose step samples nothing, reach the same elements. -/
def Obligations.UnsampledLevelsHaveNoEffect : Prop :=
  ∀ (s t : State) (sc : SensorScript), step s = .next t → t.tick = s.tick ∨ t.sampled = none →
    ∃ u, step { s with sensor := sc } = .next u ∧ u.engine = t.engine ∧ u.host = t.host ∧ u.rdata = t.rdata ∧ u.tick = t.tick

/-- R29, R34 to R36, R114: in a state with the invariant STATUS never shows BUSY with DONE (an inference of the spec, "derived"),
and VALID only with DONE and ERR = 0; RAW0, RAW1 and READING are zero unless VALID. -/
def Obligations.StatusBitsAreConsistent : Prop :=
  ∀ s : State, s.Inv →
    let w := statusWord s.engine
    ¬ (w.getLsbD 0 = true ∧ w.getLsbD 1 = true) ∧
    (w.getLsbD 2 = true → w.getLsbD 1 = true ∧ w.extractLsb' 4 3 = 0) ∧
    (w.getLsbD 2 = false → raw0Word s.engine = 0 ∧ raw1Word s.engine = 0 ∧ readingWord s.engine = 0)

/-- R120 ("derived"), R200: with DONE = 1 the words of STATUS and READING give the host exactly the outcome the engine holds. -/
def Obligations.HostReadsTheOutcome : Prop :=
  ∀ S : Engine, outcomeOfWords (statusWord S) (readingWord S) = S.outcome ∧ (S.outcome = none ↔ S.done = false)

/-! Time (42_start_handshake.md, 43_bit_readout.md, 70_reset_and_hazards.md): whole stretches of a transaction, for every legal
configuration and under every sequence of levels `L`. `Engine.run c L k S n` is the engine `n` ticks after it was `S` in tick `k`. -/

/-- R13, R40: with no host operation to come, `n` steps of the machine are `n` engine steps under the levels the sensor shows. -/
def Obligations.MachineTicksAreEngineSteps : Prop :=
  ∀ (n : Nat) (s : State), s.Inv → s.rst = false → s.host = [] →
    ∃ t, Host.Core.run Sys2Proof.core n s = .next t ∧ t.engine = Engine.run s.config s.sensedAfter 0 s.engine n ∧
      t.tick = s.tick + n ∧ t.host = [] ∧ t.config = s.config

/-- R7, R132 (by the scripts of log entry 2): the sensor is not restricted: every finite sequence of levels is shown by some
script. -/
def Obligations.EveryLevelSequenceIsPossible : Prop :=
  ∀ (L : Nat → Level) (n : Nat), ∃ sc : SensorScript, sc.wellFormed = true ∧
    ∀ s : State, s.sensor = sc → ∀ k < n, s.sensedAfter k = L k

/-- R140 to R142 (R142 "derived"): after an accepted START the line is low for exactly `T_START_LOW` ticks, then driven high for
exactly `T_START_HIGH`, then an input, whatever the line shows. -/
def Obligations.StartPulseLastsExactly : Prop :=
  ∀ (c : Config) (L : Nat → Level) (k : Nat) (S : Engine), c.Legal → S.phase = .idle →
    let R := Engine.run c L k (S.acceptStart c)
    (∀ n < c.tStartLow.toNat, (R n).phase = .startLow ∧ (R n).lineDir = .output ∧ (R n).lineOut = .low) ∧
    (∀ n, c.tStartLow.toNat ≤ n → n < c.tStartLow.toNat + c.tStartHigh.toNat →
      (R n).phase = .startHigh ∧ (R n).lineDir = .output ∧ (R n).lineOut = .high) ∧
    (R (c.tStartLow.toNat + c.tStartHigh.toNat)).phase = .awaitResponse ∧
    (R (c.tStartLow.toNat + c.tStartHigh.toNat)).tmr = 0 ∧ (R (c.tStartLow.toNat + c.tStartHigh.toNat)).iter = 0 ∧
    (R (c.tStartLow.toNat + c.tStartHigh.toNat)).lineDir = .input ∧
    (R (c.tStartLow.toNat + c.tStartHigh.toNat)).lineOut = .high

/-- R143, R147 ("derived"): a polling phase entered in tick `e` samples every `P_POLL` ticks; it ends in the tick after the first
sample `j` that sees the target, and if none of the `N` does, with the failure `N × P_POLL + 1` ticks after `e`; until then it
stays in the phase. It takes every state of the elements in its phase, those with one of the unreachable codes of R96 too, from
which Engine.run gives a value where the spec gives none and the machine faults: that is the model's choice (log entry 5). -/
def Obligations.PollingWindowIsExact : Prop :=
  ∀ (c : Config) (L : Nat → Level) (e : Nat) (S : Engine) (p : Phase) (target : Level) (n : BitVec 8) (fail : ErrorKind),
    c.Legal → (p, target, n, fail) ∈ pollTable c → S.phase = p → S.tmr = 0 → S.iter = 0 →
    (∀ j < n.toNat, (∀ i < j, L (e + i * c.pPoll.toNat) ≠ target) → L (e + j * c.pPoll.toNat) = target →
      (Engine.run c L e S (j * c.pPoll.toNat + 1)).phase = phaseAfterTarget S.bitn p ∧
      ∀ m ≤ j * c.pPoll.toNat, (Engine.run c L e S m).phase = p) ∧
    ((∀ i < n.toNat, L (e + i * c.pPoll.toNat) ≠ target) →
      Engine.run c L e S (n.toNat * c.pPoll.toNat + 1) =
        { S with lineDir := .output, lineOut := .high, err := some fail, done := true, phase := .idle,
                 tmr := 0, iter := 0, bitn := 0, shreg := 0 } ∧
      ∀ m ≤ n.toNat * c.pPoll.toNat, (Engine.run c L e S m).phase = p)

/-- R161, R163, R165, R169 ("derived"): one successful bit pass: the high seen by sample `j`, the bit sampled `T_SAMPLE` ticks
later, the low seen by sample `i`; the whole engine after it. It takes every state of the elements in its phase, those with the
unreachable line code 0 0 of R96 too, from which Engine.run gives a value where the spec gives none and the machine faults: that
is the model's choice (log entry 5). -/
def Obligations.BitPassTakesExactly : Prop :=
  ∀ (c : Config) (L : Nat → Level) (e j i : Nat) (S : Engine),
    c.Legal → S.phase = .bitWaitHigh → S.tmr = 0 → S.iter = 0 → S.bitn.toNat < 40 →
    let P := c.pPoll.toNat
    let d := e + j * P
    let q := d + c.tSample.toNat + 1
    j < c.nBitHigh.toNat → (∀ m < j, L (e + m * P) = .low) → L d = .high →
    i < c.nBitLow.toNat → (∀ m < i, L (q + m * P) = .high) → L (q + i * P) = .low →
      Engine.run c L e S (q + i * P + 1 - e) =
        { S with phase := if S.bitn + 1 = 40 then .finalize else .bitWaitHigh, bitn := S.bitn + 1,
                 shreg := shiftIn S.shreg (L (d + c.tSample.toNat)), tmr := 0, iter := 0 }

/-- R167 (an inference of the spec, "derived"): the discrimination law. A pulse that rises in tick `r` and lasts `w` ticks is
detected in a tick `d` less than `P_POLL` after `r`, and reads 1 exactly when `w > (d - r) + T_SAMPLE`; so 0 for `w ≤ T_SAMPLE`, 1
for `w ≥ T_SAMPLE + P_POLL`. The pulse lasts `P_POLL` ticks or one of the phase's samples falls into it, since a shorter one can
fall between two samples (R147). That the width `T_SAMPLE + P_POLL` reads 1 follows R167 against U10 (log entry 20). It takes
every state of the elements in its phase, those with one of the unreachable codes of R96 too, from which Engine.run gives a value
where the spec gives none and the machine faults: that is the model's choice (log entry 5). -/
def Obligations.PulseWidthDecidesTheBit : Prop :=
  ∀ (c : Config) (L : Nat → Level) (e r w : Nat) (S : Engine),
    c.Legal → S.phase = .bitWaitHigh → S.tmr = 0 → S.iter = 0 →
    e ≤ r → r ≤ e + (c.nBitHigh.toNat - 1) * c.pPoll.toNat →
    (c.pPoll.toNat ≤ w ∨ ∃ j, r ≤ e + j * c.pPoll.toNat ∧ e + j * c.pPoll.toNat < r + w) →
    (∀ k, e ≤ k → k < r → L k = .low) → (∀ k, r ≤ k → k < r + w → L k = .high) →
    (∀ k, r + w ≤ k → k ≤ r + c.pPoll.toNat + c.tSample.toNat → L k = .low) →
    ∃ d, r ≤ d ∧ d < r + c.pPoll.toNat ∧
      (∀ n, n ≤ d - e → (Engine.run c L e S n).phase = .bitWaitHigh) ∧
      let T := Engine.run c L e S (d - e + c.tSample.toNat + 1)
      T.phase = .bitWaitLow ∧ T.bitn = S.bitn + 1 ∧
      T.shreg = shiftIn S.shreg (if d - r + c.tSample.toNat < w then .high else .low) ∧
      (w ≤ c.tSample.toNat → T.shreg = shiftIn S.shreg .low) ∧
      (c.tSample.toNat + c.pPoll.toNat ≤ w → T.shreg = shiftIn S.shreg .high)

/-- R46, R252 (inferences of the spec, "derived"): every transaction ends, whatever the line shows, within the bound of R252;
until then it is busy with DONE = 0, and then it is the canonical idle with DONE = 1, and with no result if it failed. -/
def Obligations.EveryTransactionEndsWithinTheBound : Prop :=
  ∀ (c : Config) (L : Nat → Level) (k : Nat) (S : Engine), c.Legal → S.phase = .idle →
    ∃ n ≤ c.longestTransaction, (Engine.run c L k (S.acceptStart c) n).CanonicalIdle ∧
      (Engine.run c L k (S.acceptStart c) n).done = true ∧
      ((Engine.run c L k (S.acceptStart c) n).err ≠ none → (Engine.run c L k (S.acceptStart c) n).NoResult) ∧
      ∀ m < n, (Engine.run c L k (S.acceptStart c) m).phase ≠ .idle ∧ (Engine.run c L k (S.acceptStart c) m).done = false

/-- R252 (an inference of the spec, "derived"): a successful transaction takes at least the shortest and at most the longest time
of the table. -/
def Obligations.SuccessTakesBetweenShortestAndLongest : Prop :=
  ∀ (c : Config) (L : Nat → Level) (k n : Nat) (S : Engine), c.Legal → S.phase = .idle →
    (Engine.run c L k (S.acceptStart c) n).done = true → (Engine.run c L k (S.acceptStart c) n).err = none →
    (∀ m < n, (Engine.run c L k (S.acceptStart c) m).done = false) →
    c.shortestSuccess ≤ n ∧ n ≤ c.longestSuccess

/-- R201, R252 (an inference of the spec, "derived"): a sensor that never responds gives NoResponse, exactly `T_START_LOW +
T_START_HIGH + N_RESPONSE × P_POLL + 1` ticks after the START, with no bit read and no result. -/
def Obligations.SilentSensorGivesNoResponse : Prop :=
  ∀ (c : Config) (L : Nat → Level) (k : Nat) (S : Engine), c.Legal → S.phase = .idle →
    (∀ m, k + c.startPulse ≤ m → L m = .high) →
    Engine.run c L k (S.acceptStart c) (c.startPulse + c.nResponse.toNat * c.pPoll.toNat + 1) =
      { Engine.reset with done := true, err := some .noResponse } ∧
    ∀ m ≤ c.startPulse + c.nResponse.toNat * c.pPoll.toNat,
      (Engine.run c L k (S.acceptStart c) m).phase ≠ .idle ∧ (Engine.run c L k (S.acceptStart c) m).bitn = 0

/-- The source's round trip (95_test_vectors.md S9; R84 to R86, R92, R163, R181, R183), for every frame: a transaction with the
reference parameters and the nominal sensor of 95_test_vectors.md section 0, sending `f`, ends in Success with exactly that frame
and its decoded reading if its checksum matches, and in ChecksumMismatch with no result if not. The order of the bits is the spec's
decision D10 (log entry 13). -/
def Obligations.NominalSensorRoundTrip : Prop :=
  ∀ (f : Frame) (S : Engine), S.phase = .idle →
    let sc := frameScript Config.reference.startPulse f
    ∃ n, Engine.run Config.reference (fun k => (sc.after k).level k) 0 (S.acceptStart Config.reference) n =
      if ((byte0 f).toNat + (byte1 f).toNat + (byte2 f).toNat + (byte3 f).toNat) % 256 = (byte4 f).toNat then
        { Engine.reset with
          done := true, raw := f, humTenths := byte0 f ++ byte1 f, tempTenths := signMagToTwos (byte2 f ++ byte3 f) }
      else { Engine.reset with done := true, err := some .checksumMismatch }

/-- R98, R120, R251, R252 (R120 and R252 inferences of the spec, "derived"): PERFORM_READING on an idle machine always returns,
whatever the sensor does, within the bound; the engine is then what the transaction its START began has made of it, and what the
host has read is that transaction's outcome. How WAITDONE runs is log entry 19. -/
def Obligations.PerformReadingAlwaysReturns : Prop :=
  ∀ (s : State) (rest : List HostOp), s.Inv → s.rst = false → s.engine.phase = .idle →
    s.host = HostOp.performReading ++ rest →
    ∃ (n : Nat) (t : State), Host.Core.run Sys2Proof.core n s = .next t ∧ t.host = rest ∧ t.engine.CanonicalIdle ∧
      t.tick ≤ s.tick + s.config.longestTransaction ∧ t.rdata = readingWord t.engine ∧
      t.engine = Engine.run s.config s.sensedAfter 0 (s.engine.acceptStart s.config) (t.tick - s.tick) ∧
      t.engine.outcome ≠ none ∧ outcomeOfWords (statusWord t.engine) t.rdata = t.engine.outcome
end

