-- ==== Sys2Proof/Laws/State.lean ====
section
/-! SUPPORT. One lemma per field per update of the state, true by rfl, so that no later proof unfolds a record update. -/

namespace Sys2Proof.Machine

/-! The elements after `driveLow`. -/

@[simp] theorem Engine.driveLow_phase (S : Engine) : S.driveLow.phase = S.phase := rfl
@[simp] theorem Engine.driveLow_bitn (S : Engine) : S.driveLow.bitn = S.bitn := rfl
@[simp] theorem Engine.driveLow_tmr (S : Engine) : S.driveLow.tmr = S.tmr := rfl
@[simp] theorem Engine.driveLow_iter (S : Engine) : S.driveLow.iter = S.iter := rfl
@[simp] theorem Engine.driveLow_shreg (S : Engine) : S.driveLow.shreg = S.shreg := rfl
@[simp] theorem Engine.driveLow_lineDir (S : Engine) : S.driveLow.lineDir = .output := rfl
@[simp] theorem Engine.driveLow_lineOut (S : Engine) : S.driveLow.lineOut = .low := rfl
@[simp] theorem Engine.driveLow_done (S : Engine) : S.driveLow.done = S.done := rfl
@[simp] theorem Engine.driveLow_err (S : Engine) : S.driveLow.err = S.err := rfl
@[simp] theorem Engine.driveLow_raw (S : Engine) : S.driveLow.raw = S.raw := rfl
@[simp] theorem Engine.driveLow_humTenths (S : Engine) : S.driveLow.humTenths = S.humTenths := rfl
@[simp] theorem Engine.driveLow_tempTenths (S : Engine) : S.driveLow.tempTenths = S.tempTenths := rfl

/-! The elements after `driveHigh`. -/

@[simp] theorem Engine.driveHigh_phase (S : Engine) : S.driveHigh.phase = S.phase := rfl
@[simp] theorem Engine.driveHigh_bitn (S : Engine) : S.driveHigh.bitn = S.bitn := rfl
@[simp] theorem Engine.driveHigh_tmr (S : Engine) : S.driveHigh.tmr = S.tmr := rfl
@[simp] theorem Engine.driveHigh_iter (S : Engine) : S.driveHigh.iter = S.iter := rfl
@[simp] theorem Engine.driveHigh_shreg (S : Engine) : S.driveHigh.shreg = S.shreg := rfl
@[simp] theorem Engine.driveHigh_lineDir (S : Engine) : S.driveHigh.lineDir = .output := rfl
@[simp] theorem Engine.driveHigh_lineOut (S : Engine) : S.driveHigh.lineOut = .high := rfl
@[simp] theorem Engine.driveHigh_done (S : Engine) : S.driveHigh.done = S.done := rfl
@[simp] theorem Engine.driveHigh_err (S : Engine) : S.driveHigh.err = S.err := rfl
@[simp] theorem Engine.driveHigh_raw (S : Engine) : S.driveHigh.raw = S.raw := rfl
@[simp] theorem Engine.driveHigh_humTenths (S : Engine) : S.driveHigh.humTenths = S.humTenths := rfl
@[simp] theorem Engine.driveHigh_tempTenths (S : Engine) : S.driveHigh.tempTenths = S.tempTenths := rfl

/-! The elements after `release`. -/

@[simp] theorem Engine.release_phase (S : Engine) : S.release.phase = S.phase := rfl
@[simp] theorem Engine.release_bitn (S : Engine) : S.release.bitn = S.bitn := rfl
@[simp] theorem Engine.release_tmr (S : Engine) : S.release.tmr = S.tmr := rfl
@[simp] theorem Engine.release_iter (S : Engine) : S.release.iter = S.iter := rfl
@[simp] theorem Engine.release_shreg (S : Engine) : S.release.shreg = S.shreg := rfl
@[simp] theorem Engine.release_lineDir (S : Engine) : S.release.lineDir = .input := rfl
@[simp] theorem Engine.release_lineOut (S : Engine) : S.release.lineOut = S.lineOut := rfl
@[simp] theorem Engine.release_done (S : Engine) : S.release.done = S.done := rfl
@[simp] theorem Engine.release_err (S : Engine) : S.release.err = S.err := rfl
@[simp] theorem Engine.release_raw (S : Engine) : S.release.raw = S.raw := rfl
@[simp] theorem Engine.release_humTenths (S : Engine) : S.release.humTenths = S.humTenths := rfl
@[simp] theorem Engine.release_tempTenths (S : Engine) : S.release.tempTenths = S.tempTenths := rfl

/-! The elements after `restoreIdle`. -/

@[simp] theorem Engine.restoreIdle_phase (S : Engine) : S.restoreIdle.phase = S.phase := rfl
@[simp] theorem Engine.restoreIdle_bitn (S : Engine) : S.restoreIdle.bitn = S.bitn := rfl
@[simp] theorem Engine.restoreIdle_tmr (S : Engine) : S.restoreIdle.tmr = S.tmr := rfl
@[simp] theorem Engine.restoreIdle_iter (S : Engine) : S.restoreIdle.iter = S.iter := rfl
@[simp] theorem Engine.restoreIdle_shreg (S : Engine) : S.restoreIdle.shreg = S.shreg := rfl
@[simp] theorem Engine.restoreIdle_lineDir (S : Engine) : S.restoreIdle.lineDir = .output := rfl
@[simp] theorem Engine.restoreIdle_lineOut (S : Engine) : S.restoreIdle.lineOut = .high := rfl
@[simp] theorem Engine.restoreIdle_done (S : Engine) : S.restoreIdle.done = S.done := rfl
@[simp] theorem Engine.restoreIdle_err (S : Engine) : S.restoreIdle.err = S.err := rfl
@[simp] theorem Engine.restoreIdle_raw (S : Engine) : S.restoreIdle.raw = S.raw := rfl
@[simp] theorem Engine.restoreIdle_humTenths (S : Engine) : S.restoreIdle.humTenths = S.humTenths := rfl
@[simp] theorem Engine.restoreIdle_tempTenths (S : Engine) : S.restoreIdle.tempTenths = S.tempTenths := rfl

/-! The elements after the end of a transaction. -/

@[simp] theorem Engine.finish_phase (S : Engine) (o : Option ErrorKind) : (S.finish o).phase = .idle := rfl
@[simp] theorem Engine.finish_bitn (S : Engine) (o : Option ErrorKind) : (S.finish o).bitn = 0 := rfl
@[simp] theorem Engine.finish_tmr (S : Engine) (o : Option ErrorKind) : (S.finish o).tmr = 0 := rfl
@[simp] theorem Engine.finish_iter (S : Engine) (o : Option ErrorKind) : (S.finish o).iter = 0 := rfl
@[simp] theorem Engine.finish_shreg (S : Engine) (o : Option ErrorKind) : (S.finish o).shreg = 0 := rfl
@[simp] theorem Engine.finish_lineDir (S : Engine) (o : Option ErrorKind) : (S.finish o).lineDir = .output := rfl
@[simp] theorem Engine.finish_lineOut (S : Engine) (o : Option ErrorKind) : (S.finish o).lineOut = .high := rfl
@[simp] theorem Engine.finish_done (S : Engine) (o : Option ErrorKind) : (S.finish o).done = true := rfl
@[simp] theorem Engine.finish_err (S : Engine) (o : Option ErrorKind) : (S.finish o).err = o := rfl
@[simp] theorem Engine.finish_raw (S : Engine) (o : Option ErrorKind) : (S.finish o).raw = S.raw := rfl
@[simp] theorem Engine.finish_humTenths (S : Engine) (o : Option ErrorKind) : (S.finish o).humTenths = S.humTenths := rfl
@[simp] theorem Engine.finish_tempTenths (S : Engine) (o : Option ErrorKind) : (S.finish o).tempTenths = S.tempTenths := rfl

/-! The elements after `Abort(e)`. -/

@[simp] theorem Engine.abort_phase (S : Engine) (e : ErrorKind) : (S.abort e).phase = .idle := rfl
@[simp] theorem Engine.abort_bitn (S : Engine) (e : ErrorKind) : (S.abort e).bitn = 0 := rfl
@[simp] theorem Engine.abort_tmr (S : Engine) (e : ErrorKind) : (S.abort e).tmr = 0 := rfl
@[simp] theorem Engine.abort_iter (S : Engine) (e : ErrorKind) : (S.abort e).iter = 0 := rfl
@[simp] theorem Engine.abort_shreg (S : Engine) (e : ErrorKind) : (S.abort e).shreg = 0 := rfl
@[simp] theorem Engine.abort_lineDir (S : Engine) (e : ErrorKind) : (S.abort e).lineDir = .output := rfl
@[simp] theorem Engine.abort_lineOut (S : Engine) (e : ErrorKind) : (S.abort e).lineOut = .high := rfl
@[simp] theorem Engine.abort_done (S : Engine) (e : ErrorKind) : (S.abort e).done = true := rfl
@[simp] theorem Engine.abort_err (S : Engine) (e : ErrorKind) : (S.abort e).err = some e := rfl
@[simp] theorem Engine.abort_raw (S : Engine) (e : ErrorKind) : (S.abort e).raw = S.raw := rfl
@[simp] theorem Engine.abort_humTenths (S : Engine) (e : ErrorKind) : (S.abort e).humTenths = S.humTenths := rfl
@[simp] theorem Engine.abort_tempTenths (S : Engine) (e : ErrorKind) : (S.abort e).tempTenths = S.tempTenths := rfl

/-! The machine after `afterTick`. -/

@[simp] theorem State.afterTick_engine (s : State) (S : Engine) (l : Option Level) : (s.afterTick S l).engine = S := rfl
@[simp] theorem State.afterTick_config (s : State) (S : Engine) (l : Option Level) : (s.afterTick S l).config = s.config := rfl
@[simp] theorem State.afterTick_tick (s : State) (S : Engine) (l : Option Level) : (s.afterTick S l).tick = s.tick + 1 := rfl
@[simp] theorem State.afterTick_sensor (s : State) (S : Engine) (l : Option Level) : (s.afterTick S l).sensor = s.sensor.advance := rfl
@[simp] theorem State.afterTick_host (s : State) (S : Engine) (l : Option Level) : (s.afterTick S l).host = s.host := rfl
@[simp] theorem State.afterTick_rst (s : State) (S : Engine) (l : Option Level) : (s.afterTick S l).rst = s.rst := rfl
@[simp] theorem State.afterTick_rdata (s : State) (S : Engine) (l : Option Level) : (s.afterTick S l).rdata = s.rdata := rfl
@[simp] theorem State.afterTick_sampled (s : State) (S : Engine) (l : Option Level) : (s.afterTick S l).sampled = l := rfl

/-! The machine after `readsWord`. -/

@[simp] theorem State.readsWord_engine (s : State) (w : Word) : (s.readsWord w).engine = s.engine := rfl
@[simp] theorem State.readsWord_config (s : State) (w : Word) : (s.readsWord w).config = s.config := rfl
@[simp] theorem State.readsWord_tick (s : State) (w : Word) : (s.readsWord w).tick = s.tick := rfl
@[simp] theorem State.readsWord_sensor (s : State) (w : Word) : (s.readsWord w).sensor = s.sensor := rfl
@[simp] theorem State.readsWord_host (s : State) (w : Word) : (s.readsWord w).host = s.host := rfl
@[simp] theorem State.readsWord_rst (s : State) (w : Word) : (s.readsWord w).rst = s.rst := rfl
@[simp] theorem State.readsWord_rdata (s : State) (w : Word) : (s.readsWord w).rdata = w := rfl
@[simp] theorem State.readsWord_sampled (s : State) (w : Word) : (s.readsWord w).sampled = s.sampled := rfl

/-! The machine after `onEngine`. -/

@[simp] theorem State.onEngine_engine (s : State) (f : Engine → Engine) : (s.onEngine f).engine = f s.engine := rfl
@[simp] theorem State.onEngine_config (s : State) (f : Engine → Engine) : (s.onEngine f).config = s.config := rfl
@[simp] theorem State.onEngine_tick (s : State) (f : Engine → Engine) : (s.onEngine f).tick = s.tick := rfl
@[simp] theorem State.onEngine_sensor (s : State) (f : Engine → Engine) : (s.onEngine f).sensor = s.sensor := rfl
@[simp] theorem State.onEngine_host (s : State) (f : Engine → Engine) : (s.onEngine f).host = s.host := rfl
@[simp] theorem State.onEngine_rst (s : State) (f : Engine → Engine) : (s.onEngine f).rst = s.rst := rfl
@[simp] theorem State.onEngine_rdata (s : State) (f : Engine → Engine) : (s.onEngine f).rdata = s.rdata := rfl
@[simp] theorem State.onEngine_sampled (s : State) (f : Engine → Engine) : (s.onEngine f).sampled = s.sampled := rfl

/-! The machine after `setRst`. -/

@[simp] theorem State.setRst_engine (s : State) (b : Bool) : (s.setRst b).engine = if b || s.rst then Engine.reset else s.engine := rfl
@[simp] theorem State.setRst_config (s : State) (b : Bool) : (s.setRst b).config = s.config := rfl
@[simp] theorem State.setRst_tick (s : State) (b : Bool) : (s.setRst b).tick = s.tick := rfl
@[simp] theorem State.setRst_sensor (s : State) (b : Bool) : (s.setRst b).sensor = s.sensor := rfl
@[simp] theorem State.setRst_host (s : State) (b : Bool) : (s.setRst b).host = s.host := rfl
@[simp] theorem State.setRst_rst (s : State) (b : Bool) : (s.setRst b).rst = b := rfl
@[simp] theorem State.setRst_rdata (s : State) (b : Bool) : (s.setRst b).rdata = s.rdata := rfl
@[simp] theorem State.setRst_sampled (s : State) (b : Bool) : (s.setRst b).sampled = s.sampled := rfl

/-! The machine after `heldTick`. -/

@[simp] theorem State.heldTick_engine (s : State) : (s.heldTick).engine = Engine.reset := rfl
@[simp] theorem State.heldTick_config (s : State) : (s.heldTick).config = s.config := rfl
@[simp] theorem State.heldTick_tick (s : State) : (s.heldTick).tick = s.tick + 1 := rfl
@[simp] theorem State.heldTick_sensor (s : State) : (s.heldTick).sensor = s.sensor.advance := rfl
@[simp] theorem State.heldTick_host (s : State) : (s.heldTick).host = s.host := rfl
@[simp] theorem State.heldTick_rst (s : State) : (s.heldTick).rst = s.rst := rfl
@[simp] theorem State.heldTick_rdata (s : State) : (s.heldTick).rdata = s.rdata := rfl
@[simp] theorem State.heldTick_sampled (s : State) : (s.heldTick).sampled = none := rfl

/-! The machine after `heldAccess`. -/

@[simp] theorem State.heldAccess_engine (s : State) : (s.heldAccess).engine = Engine.reset := rfl
@[simp] theorem State.heldAccess_config (s : State) : (s.heldAccess).config = s.config := rfl
@[simp] theorem State.heldAccess_tick (s : State) : (s.heldAccess).tick = s.tick := rfl
@[simp] theorem State.heldAccess_sensor (s : State) : (s.heldAccess).sensor = s.sensor := rfl
@[simp] theorem State.heldAccess_host (s : State) : (s.heldAccess).host = s.host := rfl
@[simp] theorem State.heldAccess_rst (s : State) : (s.heldAccess).rst = s.rst := rfl
@[simp] theorem State.heldAccess_rdata (s : State) : (s.heldAccess).rdata = s.rdata := rfl
@[simp] theorem State.heldAccess_sampled (s : State) : (s.heldAccess).sampled = s.sampled := rfl

/-! The machine after `withHost`. -/

@[simp] theorem State.withHost_engine (s : State) (ops : List HostOp) : (s.withHost ops).engine = s.engine := rfl
@[simp] theorem State.withHost_config (s : State) (ops : List HostOp) : (s.withHost ops).config = s.config := rfl
@[simp] theorem State.withHost_tick (s : State) (ops : List HostOp) : (s.withHost ops).tick = s.tick := rfl
@[simp] theorem State.withHost_sensor (s : State) (ops : List HostOp) : (s.withHost ops).sensor = s.sensor := rfl
@[simp] theorem State.withHost_host (s : State) (ops : List HostOp) : (s.withHost ops).host = ops := rfl
@[simp] theorem State.withHost_rst (s : State) (ops : List HostOp) : (s.withHost ops).rst = s.rst := rfl
@[simp] theorem State.withHost_rdata (s : State) (ops : List HostOp) : (s.withHost ops).rdata = s.rdata := rfl
@[simp] theorem State.withHost_sampled (s : State) (ops : List HostOp) : (s.withHost ops).sampled = s.sampled := rfl

end Sys2Proof.Machine
end

