-- ==== Sys2Proof/Laws/Ops.lean ====
section
/-! SUPPORT. For each shared operation, what it can do, said once: the timed wait, the polling template, one engine tick, START, and
the step of the machine. -/

namespace Sys2Proof.Machine

/-! The timed wait (10_state.md R23). -/

theorem Engine.timed_of_wait {S : Engine} (h : S.tmr ≠ 0) (a : Engine) : S.timed a = { S with tmr := S.tmr - 1 } :=
  if_pos h

theorem Engine.timed_of_zero {S : Engine} (h : S.tmr = 0) (a : Engine) : S.timed a = a :=
  if_neg (not_not.mpr h)

theorem Engine.timed_cases (S a : Engine) :
    (S.tmr ≠ 0 ∧ S.timed a = { S with tmr := S.tmr - 1 }) ∨ (S.tmr = 0 ∧ S.timed a = a) := by
  by_cases h : S.tmr = 0
  · exact .inr ⟨h, timed_of_zero h a⟩
  · exact .inl ⟨h, timed_of_wait h a⟩

/-! The polling template (42_start_handshake.md R143). -/

section
variable (c : Config) (target : Level) (n : BitVec 8) (e : ErrorKind) (next : Engine → Engine) (l : Level) {S : Engine}

theorem Engine.poll_sleep (h : S.tmr ≠ 0) : S.poll c target n e next l = { S with tmr := S.tmr - 1 } :=
  timed_of_wait h _

theorem Engine.poll_timeout (h : S.tmr = 0) (hi : S.iter = n) : S.poll c target n e next l = S.abort e := by
  rw [poll, timed_of_zero h, if_pos hi]

theorem Engine.poll_hit (h : S.tmr = 0) (hi : S.iter ≠ n) (hl : l = target) :
    S.poll c target n e next l = next { S with tmr := 0, iter := 0 } := by
  rw [poll, timed_of_zero h, if_neg hi, if_pos hl]

theorem Engine.poll_miss (h : S.tmr = 0) (hi : S.iter ≠ n) (hl : l ≠ target) :
    S.poll c target n e next l = { S with iter := S.iter + 1, tmr := c.pPoll.setWidth 16 - 1 } := by
  rw [poll, timed_of_zero h, if_neg hi, if_neg hl]

/-- Everything a polling step can do. -/
theorem Engine.poll_cases (S : Engine) :
    (S.tmr ≠ 0 ∧ S.poll c target n e next l = { S with tmr := S.tmr - 1 }) ∨
    (S.tmr = 0 ∧ S.iter = n ∧ S.poll c target n e next l = S.abort e) ∨
    (S.tmr = 0 ∧ S.iter ≠ n ∧ l = target ∧ S.poll c target n e next l = next { S with tmr := 0, iter := 0 }) ∨
    (S.tmr = 0 ∧ S.iter ≠ n ∧ l ≠ target ∧
      S.poll c target n e next l = { S with iter := S.iter + 1, tmr := c.pPoll.setWidth 16 - 1 }) := by
  by_cases h : S.tmr = 0
  · by_cases hi : S.iter = n
    · exact .inr (.inl ⟨h, hi, poll_timeout c target n e next l h hi⟩)
    · by_cases hl : l = target
      · exact .inr (.inr (.inl ⟨h, hi, hl, poll_hit c target n e next l h hi hl⟩))
      · exact .inr (.inr (.inr ⟨h, hi, hl, poll_miss c target n e next l h hi hl⟩))
  · exact .inl ⟨h, poll_sleep c target n e next l h⟩

end

/-! FINALIZE (44_finalize_decode.md R181). -/

theorem Engine.finalize_of_match {S : Engine} (h : checksumMatches S.shreg = true) :
    S.finalize = { S.finish none with
      raw := S.shreg, humTenths := humidityRaw S.shreg, tempTenths := signMagToTwos (temperatureRaw S.shreg) } := by
  rw [finalize, if_pos h]

theorem Engine.finalize_of_mismatch {S : Engine} (h : checksumMatches S.shreg = false) :
    S.finalize = S.finish (some .checksumMismatch) := by
  rw [finalize, if_neg (by simp [h])]

/-- The checksum test, in numbers (44_finalize_decode.md R182). -/
theorem checksumMatches_iff (f : Frame) : checksumMatches f = true ↔
    ((byte0 f).toNat + (byte1 f).toNat + (byte2 f).toNat + (byte3 f).toNat) % 256 = (byte4 f).toNat := by
  simp [checksumMatches, checksum, ← BitVec.toNat_inj]

/-! START (40_host_commands.md R110, R111). -/

theorem Engine.acceptStart_of_busy {S : Engine} (c : Config) (h : S.phase ≠ .idle) : S.acceptStart c = S := if_neg h

/-- An accepted START writes every element. -/
theorem Engine.acceptStart_of_idle {S : Engine} (c : Config) (h : S.phase = .idle) :
    S.acceptStart c =
      { phase := .startLow, bitn := 0, tmr := c.tStartLow - 1, iter := 0, shreg := 0, lineDir := .output, lineOut := .low,
        done := false, err := none, raw := 0, humTenths := 0, tempTenths := 0 } := by
  rw [acceptStart, if_pos h]; rfl

/-! One engine tick (10_state.md R40). -/

theorem engineTick_of_encodable {s : State} (h : s.engine.Encodable) (b : Bool) (S : Engine) :
    engineTick b S s = .next (s.afterTick S (if b then some s.sensed else none)) := if_pos h

theorem engineTick_of_not_encodable {s : State} (h : ¬ s.engine.Encodable) (b : Bool) (S : Engine) :
    engineTick b S s = .fault .unreachableCode := if_neg h

/-- Everything an engine tick can answer with a next state. -/
theorem engineTick_next {s t : State} {b : Bool} {S : Engine} (h : engineTick b S s = .next t) :
    s.engine.Encodable ∧ t = s.afterTick S (if b then some s.sensed else none) := by
  by_cases he : s.engine.Encodable
  · rw [engineTick_of_encodable he] at h
    exact ⟨he, by injection h with h; exact h.symm⟩
  · rw [engineTick_of_not_encodable he] at h; cases h

/-- The engine's step fetched in `s` is one tick of `EngineStep` (10_state.md R40). -/
theorem fetchEngine_exec (s : State) :
    ∃ i, fetchEngine s = .run i s ∧ i.row.format = .phase ∧
      exec i s = engineTick (s.engine.samples s.config) (s.engine.step s.config s.sensed) s := by
  cases h : s.engine.phase <;>
    simp [fetchEngine, h, Phase.code, decode, decodePhase, Instr.row, exec, Engine.samples, Engine.step, execIdle, execStartLow,
      execStartHigh, execAwaitResponse, execAwaitAck, execAwaitDataStart, execBitWaitHigh, execBitSampleDelay, execBitWaitLow,
      execFinalize]

/-- Runs of the engine compose. -/
theorem Engine.run_add (c : Config) (L : Nat → Level) (k : Nat) (S : Engine) (m n : Nat) :
    Engine.run c L k S (m + n) = Engine.run c L (k + m) (Engine.run c L k S m) n := by
  induction n with
  | zero => rfl
  | succ n ih => rw [← Nat.add_assoc, run, ih, run, Nat.add_assoc]

/-- An idle engine stays as it is (41_line_driver.md R130). -/
theorem Engine.run_of_idle (c : Config) (L : Nat → Level) (k : Nat) {S : Engine} (h : S.phase = .idle) (n : Nat) :
    Engine.run c L k S n = S := by
  induction n with
  | zero => rfl
  | succ n ih => rw [run, ih, step, h]

end Sys2Proof.Machine
end

