-- ==== Sys2Proof/Laws/PerInstr.lean ====
section
/-! SUPPORT. The family TableRow, about each instruction as syntax: its encoded word has the format and the fixed bits of its row of
spec/opcode_table.json. -/

namespace Sys2Proof.Laws.TableRow

/-- The word of `i` has the row's format, fits its width, and agrees with its match under its mask. -/
abbrev Statement (i : Instr) : Prop :=
  (encode i).format = i.row.format ∧ (encode i).tableBits < 2 ^ i.row.width ∧ (encode i).tableBits &&& i.row.mask = i.row.bits

theorem start (r : BitVec 31) : Statement (.start r) := by
  refine ⟨rfl, (r ++ 1#1).isLt, ?_⟩
  simp only [encode, OpWord.tableBits, Instr.row, BitVec.toNat_append]
  simp [Nat.shiftLeft_eq, Nat.and_one_is_mod, Nat.or_mod_two_pow (n := 1)]
theorem nop (r : BitVec 31) : Statement (.nop r) := by
  refine ⟨rfl, (r ++ 0#1).isLt, ?_⟩
  simp only [encode, OpWord.tableBits, Instr.row, BitVec.toNat_append]
  simp [Nat.shiftLeft_eq, Nat.and_one_is_mod]
theorem rdCtrl : Statement .rdCtrl := by decide
theorem rdStatus : Statement .rdStatus := by decide
theorem rdRaw0 : Statement .rdRaw0 := by decide
theorem rdRaw1 : Statement .rdRaw1 := by decide
theorem rdReading : Statement .rdReading := by decide
theorem rdReserved14 : Statement .rdReserved14 := by decide
theorem rdReserved18 : Statement .rdReserved18 := by decide
theorem rdReserved1C : Statement .rdReserved1C := by decide
theorem wrCtrl (v : Word) : Statement (.wrCtrl v) := (by decide : Statement (.wrCtrl 0))
theorem wrStatus (v : Word) : Statement (.wrStatus v) := (by decide : Statement (.wrStatus 0))
theorem wrRaw0 (v : Word) : Statement (.wrRaw0 v) := (by decide : Statement (.wrRaw0 0))
theorem wrRaw1 (v : Word) : Statement (.wrRaw1 v) := (by decide : Statement (.wrRaw1 0))
theorem wrReading (v : Word) : Statement (.wrReading v) := (by decide : Statement (.wrReading 0))
theorem wrReserved14 (v : Word) : Statement (.wrReserved14 v) := (by decide : Statement (.wrReserved14 0))
theorem wrReserved18 (v : Word) : Statement (.wrReserved18 v) := (by decide : Statement (.wrReserved18 0))
theorem wrReserved1C (v : Word) : Statement (.wrReserved1C v) := (by decide : Statement (.wrReserved1C 0))
theorem idle : Statement .idle := by decide
theorem startLow : Statement .startLow := by decide
theorem startHigh : Statement .startHigh := by decide
theorem awaitResponse : Statement .awaitResponse := by decide
theorem awaitAck : Statement .awaitAck := by decide
theorem awaitDataStart : Statement .awaitDataStart := by decide
theorem bitWaitHigh : Statement .bitWaitHigh := by decide
theorem bitSampleDelay : Statement .bitSampleDelay := by decide
theorem bitWaitLow : Statement .bitWaitLow := by decide
theorem finalize : Statement .finalize := by decide
theorem driveLow : Statement .driveLow := by decide
theorem driveHigh : Statement .driveHigh := by decide
theorem release : Statement .release := by decide
theorem restoreIdle : Statement .restoreIdle := by decide
theorem sample : Statement .sample := by decide

end Sys2Proof.Laws.TableRow
end

