-- ==== Sys2Proof/Laws/Run.lean ====
section
/-! SUPPORT. Stretches of engine steps in which the engine only waits (10_state.md R23), and how runs are put together. -/

namespace Sys2Proof.Machine

/-- With `tmr` not 0 a step of a timed phase only counts down, whatever the line shows (10_state.md R23). -/
theorem Engine.step_of_wait (c : Config) {S : Engine} (l : Level) (hi : S.phase ≠ .idle) (hf : S.phase ≠ .finalize)
    (ht : S.tmr ≠ 0) : S.step c l = { S with tmr := S.tmr - 1 } := by
  unfold step
  cases hp : S.phase <;> simp only
  case idle => exact absurd hp hi
  case finalize => exact absurd hp hf
  all_goals rw [← hp]
  case startLow => exact timed_of_wait ht _
  case startHigh => exact timed_of_wait ht _
  case bitSampleDelay => exact timed_of_wait ht _
  all_goals exact poll_sleep _ _ _ _ _ _ ht

/-- `n` ticks of waiting, as long as `tmr` lasts. -/
theorem Engine.run_of_wait (c : Config) (L : Nat → Level) (k : Nat) {S : Engine} (hi : S.phase ≠ .idle)
    (hf : S.phase ≠ .finalize) (n : Nat) (hn : n ≤ S.tmr.toNat) :
    Engine.run c L k S n = { S with tmr := S.tmr - BitVec.ofNat 16 n } := by
  induction n with
  | zero => simp [run]
  | succ n ih =>
    have hlt := S.tmr.isLt
    rw [run, ih (by omega), step_of_wait]
    · congr 1
      show S.tmr - BitVec.ofNat 16 n - 1 = S.tmr - BitVec.ofNat 16 (n + 1)
      bv_omega
    · exact hi
    · exact hf
    · show S.tmr - BitVec.ofNat 16 n ≠ 0
      bv_omega

/-- The whole of a wait: after `tmr` ticks the engine is as before, with `tmr = 0`. -/
theorem Engine.run_to_zero (c : Config) (L : Nat → Level) (k : Nat) {S : Engine} (hi : S.phase ≠ .idle)
    (hf : S.phase ≠ .finalize) : Engine.run c L k S S.tmr.toNat = { S with tmr := 0 } := by
  rw [run_of_wait c L k hi hf _ le_rfl]
  simp

/-- One step more, taken first. -/
theorem Engine.run_succ (c : Config) (L : Nat → Level) (k : Nat) (S : Engine) (n : Nat) :
    Engine.run c L k S (n + 1) = Engine.run c L (k + 1) (S.step c (L k)) n := by
  rw [Nat.add_comm, run_add]
  rfl

/-- A step never takes `done` back to 0: only START and reset do (10_state.md R27). -/
theorem Engine.step_keeps_done (c : Config) (S : Engine) (l : Level) (h : S.done = true) : (S.step c l).done = true := by
  unfold step
  cases hp : S.phase <;>
    simp only [h, startLow, startHigh, awaitResponse, awaitAck, awaitDataStart, bitWaitHigh, bitSampleDelay, bitWaitLow,
      Engine.finalize, timed, poll, abort, finish, driveHigh, release, restoreIdle] <;>
    split <;> (try split) <;> (try split) <;> simp_all

/-- `done`, once 1, stays 1 as long as only ticks pass. -/
theorem Engine.run_keeps_done (c : Config) (L : Nat → Level) (k : Nat) (S : Engine) {m n : Nat} (hmn : m ≤ n)
    (h : (Engine.run c L k S m).done = true) : (Engine.run c L k S n).done = true := by
  induction n, hmn using Nat.le_induction with
  | base => exact h
  | succ n _ ih => exact step_keeps_done c _ _ ih

end Sys2Proof.Machine
end

