-- ==== Sys2Proof/Laws/Sensor.lean ====
section
/-! SUPPORT. The sensor script: its level and how a tick changes it (30_encoding.md R99). -/

namespace Sys2Proof

theorem scriptLevel_nil (t : Option Level) : scriptLevel [] t = t := rfl

theorem scriptLevel_cons (l : Level) (n : Nat) (rs : List (Level × Nat)) (t : Option Level) (h : 0 < n) :
    scriptLevel ((l, n) :: rs) t = some l := by
  obtain ⟨m, rfl⟩ := Nat.exists_eq_succ_of_ne_zero (Nat.pos_iff_ne_zero.mp h)
  rfl

theorem scriptAdvance_cons (l : Level) (n : Nat) (rs : List (Level × Nat)) :
    scriptAdvance ((l, n + 1) :: rs) = if n = 0 then rs else (l, n) :: rs := by
  cases n <;> rfl

/-- Advancing a script keeps every run at least one tick long. -/
theorem scriptAdvance_wellFormed : ∀ rs : List (Level × Nat), (rs.all fun r => decide (0 < r.2)) = true →
    ((scriptAdvance rs).all fun r => decide (0 < r.2)) = true
  | [], h => h
  | (_, 0) :: _, h => by simp at h
  | (_, 1) :: rest, h => by simpa [scriptAdvance] using h
  | (l, n + 2) :: rest, h => by simpa [scriptAdvance] using h

theorem SensorScript.advance_wellFormed {sc : SensorScript} (h : sc.wellFormed = true) : sc.advance.wellFormed = true :=
  scriptAdvance_wellFormed sc.runs h

end Sys2Proof
end

