-- ==== Sys2Proof/Laws/Step.lean ====
section
/-! SUPPORT. What one step of the machine can do, said once: inversion of step. -/

namespace Sys2Proof.Machine

/-- A command word acts as START with bit 0 = 1 and does nothing otherwise (30_encoding.md R90). -/
theorem exec_decodeCommand (w : Word) (s : State) : exec (decodeCommand w) s =
    .next (if commandIsStart w then s.onEngine (Engine.acceptStart s.config) else s) := by
  unfold decodeCommand
  split <;> simp_all [exec, execStart, execNop]

/-- Everything a register access with a meaning can do: change nothing but the port `reg_rdata`, or START. -/
theorem exec_decode_reg {sel : BitVec 9} {v : Word} {i : Instr} (h : decode (.reg sel v) = .ok i) (s : State) :
    (∃ w, exec i s = .next (s.readsWord w)) ∨
    (hostOpIsStart (.access sel v) = true ∧ exec i s = .next (s.onEngine (Engine.acceptStart s.config))) := by
  simp only [decode, decodeRegister] at h
  split at h <;> first | (injection h with h; subst h) | cases h
  · by_cases hv : commandIsStart v
    · exact .inr ⟨by simp [hostOpIsStart, hv], by simp [exec, execWrCtrl, hv]⟩
    · exact .inl ⟨s.rdata, by simp [exec, execWrCtrl, hv, State.readsWord]⟩
  all_goals exact .inl ⟨_, rfl⟩

/-- Everything a step can do with `rst` asserted (70_reset_and_hazards.md R240): a tick with the elements held at their reset values, a
host access (or an empty wait) without effect, a change of the port, or the refusal of an access that does not decode. -/
theorem fetchHeld_cases (s : State) :
    (∃ ops, fetchHeld s = .surroundings (s.withHost ops).heldTick) ∨
    (∃ ops, fetchHeld s = .surroundings (s.withHost ops).heldAccess) ∨
    (∃ b rest, s.host = .rst b :: rest ∧ fetchHeld s = .surroundings ((s.withHost rest).setRst b)) ∨
    (∃ sel v rest e, s.host = .access sel v :: rest ∧ decode (.reg sel v) = .error e ∧
      fetchHeld s = .refuse (.unsupportedAccess sel)) := by
  cases hh : s.host with
  | nil => exact .inl ⟨s.host, by simp only [fetchHeld, hh]; rw [← hh]; rfl⟩
  | cons op rest =>
    cases op with
    | command w => exact .inr (.inl ⟨rest, by simp only [fetchHeld, hh]⟩)
    | access sel v =>
      cases hd : decode (.reg sel v) with
      | ok i => exact .inr (.inl ⟨rest, by simp only [fetchHeld, hh, hd]⟩)
      | error e => exact .inr (.inr (.inr ⟨sel, v, rest, e, rfl, hd, by simp only [fetchHeld, hh, hd]⟩))
    | wait n =>
      cases n with
      | zero => exact .inr (.inl ⟨rest, by simp only [fetchHeld, hh]⟩)
      | succ n => exact .inl ⟨waitLeft n rest, by simp only [fetchHeld, hh]⟩
    | waitDone => exact .inl ⟨s.host, by simp only [fetchHeld, hh]; rw [← hh]; rfl⟩
    | rst b => exact .inr (.inr (.inl ⟨b, rest, rfl, by simp only [fetchHeld, hh]⟩))

/-- Everything a step that answers a next state can do: hold the engine in reset; move the port `rst`; a host access (or an empty
wait) that leaves the engine alone; START; one tick of `EngineStep`. -/
theorem step_cases {s t : State} (h : step s = .next t) :
    s.config.Legal ∧
    ((s.rst = true ∧ ∃ ops, t = (s.withHost ops).heldTick ∨ t = (s.withHost ops).heldAccess) ∨
     (∃ b rest, s.host = .rst b :: rest ∧ t = (s.withHost rest).setRst b) ∨
     (s.rst = false ∧ ∃ ops w, t = (s.withHost ops).readsWord w) ∨
     (s.rst = false ∧ ∃ op rest, s.host = op :: rest ∧ hostOpIsStart op = true ∧
       t = (s.withHost rest).onEngine (Engine.acceptStart s.config)) ∨
     (s.rst = false ∧ s.engine.Encodable ∧ ∃ ops,
       t = (s.withHost ops).afterTick (s.engine.step s.config s.sensed)
         (if s.engine.samples s.config then some s.sensed else none))) := by
  unfold step fetch at h
  by_cases hc : s.config.Legal
  swap
  · simp [hc] at h
  refine ⟨hc, ?_⟩
  rw [if_pos hc] at h
  have tick : ∀ ops, (match fetchEngine (s.withHost ops) with
      | .run i t => exec i t | .surroundings t => .next t | .refuse r => .refused r | .fault f => .fault f) =
        Host.Outcome.next t → s.engine.Encodable ∧
      t = (s.withHost ops).afterTick (s.engine.step s.config s.sensed)
         (if s.engine.samples s.config then some s.sensed else none) := by
    intro ops h
    obtain ⟨i, hf, -, he⟩ := fetchEngine_exec (s.withHost ops)
    rw [hf] at h
    exact engineTick_next (he.symm.trans h)
  rcases Bool.eq_false_or_eq_true s.rst with hr | hr
  · rw [hr, if_pos rfl] at h
    rcases fetchHeld_cases s with ⟨ops, he⟩ | ⟨ops, he⟩ | ⟨b, rest, hh, he⟩ | ⟨_, _, _, _, _, _, he⟩ <;> rw [he] at h <;> cases h
    · exact .inl ⟨hr, ops, .inl rfl⟩
    · exact .inl ⟨hr, ops, .inr rfl⟩
    · exact .inr (.inl ⟨b, rest, hh, rfl⟩)
  rw [hr, if_neg (by simp)] at h
  refine .inr ?_
  cases hh : s.host with
  | nil =>
    simp only [fetchReleased, hh] at h
    exact .inr (.inr (.inr ⟨hr, (tick s.host h).1, s.host, (tick s.host h).2⟩))
  | cons op rest =>
    cases op with
    | command w =>
      simp only [fetchReleased, hh] at h
      rw [exec_decodeCommand] at h
      injection h with h
      by_cases hw : commandIsStart w
      · exact .inr (.inr (.inl ⟨hr, _, rest, rfl, hw, by simpa [hw] using h.symm⟩))
      · exact .inr (.inl ⟨hr, rest, s.rdata, (by simpa [hw] using h.symm : t = s.withHost rest)⟩)
    | access sel v =>
      simp only [fetchReleased, hh] at h
      cases hd : decode (.reg sel v) with
      | ok i =>
        simp only [hd] at h
        rcases exec_decode_reg hd (s.withHost rest) with ⟨w, he⟩ | ⟨hs, he⟩ <;> rw [he] at h <;> injection h with h
        · exact .inr (.inl ⟨hr, rest, w, h.symm⟩)
        · exact .inr (.inr (.inl ⟨hr, _, rest, rfl, hs, h.symm⟩))
      | error e => simp [hd] at h
    | wait n =>
      cases n with
      | zero =>
        simp only [fetchReleased, hh] at h
        injection h with h
        exact .inr (.inl ⟨hr, rest, s.rdata, h.symm⟩)
      | succ n =>
        simp only [fetchReleased, hh] at h
        exact .inr (.inr (.inr ⟨hr, (tick _ h).1, _, (tick _ h).2⟩))
    | waitDone =>
      simp only [fetchReleased, hh, exec, execRdStatus] at h
      injection h with h
      exact .inr (.inl ⟨hr, _, _, h.symm⟩)
    | rst b =>
      simp only [fetchReleased, hh] at h
      injection h with h
      exact .inl ⟨b, rest, rfl, h.symm⟩

end Sys2Proof.Machine
end

