-- ==== Sys2Proof/Tests/Slice0.lean ====
section
/-! SUPPORT. The model's own tests. Expected values are those of spec/95_test_vectors.md (their ids are named) or are worked out from
the rule cited. The theorems `witness_…` show states and operands that meet the hypotheses of an obligation, clause by clause. -/

namespace Sys2Proof.Tests

open Sys2Proof Sys2Proof.Machine

/-- The outcome is a next state of which `p` holds. -/
def nextAnd (o : Host.Outcome State Fault Refusal) (p : State → Bool) : Bool :=
  match o with
  | .next t => p t
  | .fault _ => false
  | .refused _ => false

theorem next_of {o : Host.Outcome State Fault Refusal} {P : State → Prop} [DecidablePred P]
    (h : nextAnd o (fun t => decide (P t)) = true) : ∃ t, o = .next t ∧ P t := by
  cases o with
  | next t => exact ⟨t, rfl, by simpa [nextAnd] using h⟩
  | fault r => exact absurd h (by simp [nextAnd])
  | refused r => exact absurd h (by simp [nextAnd])

/-- A machine with engine `S` and a sensor that shows `l` for ever. -/
def shows (l : Level) (S : Engine) : State := { State.reset with engine := S, sensor := ⟨[], some l⟩ }

/-- A busy engine in a phase that reads the line, with `tmr` and `iter`. -/
def reads (p : Phase) (tmr : BitVec 16) (iter : BitVec 8) : Engine :=
  { Engine.reset with phase := p, lineDir := .input, tmr := tmr, iter := iter }

/-- The same with bits sampled. -/
def readsBits (p : Phase) (tmr : BitVec 16) (iter : BitVec 8) (n : BitVec 6) (f : Frame) : Engine :=
  { reads p tmr iter with bitn := n, shreg := f }

/-- An engine in START_LOW with `tmr`. -/
def pulling (tmr : BitVec 16) : Engine := { Engine.reset with phase := .startLow, lineOut := .low, tmr := tmr }

/-- An engine in START_HIGH with `tmr`. -/
def pushing (tmr : BitVec 16) : Engine := { Engine.reset with phase := .startHigh, tmr := tmr }

/-- An engine in FINALIZE with frame `f`. -/
def finalizing (f : Frame) : Engine := readsBits .finalize 0 0 40 f

/-- An idle engine after the success of vector V1. -/
def succeeded : Engine := { Engine.reset with done := true, raw := 0x02080096A0, humTenths := 0x0208, tempTenths := 0x0096 }

/-- An idle engine after a NoResponse (vector V4). -/
def failed : Engine := { Engine.reset with done := true, err := some .noResponse }

/-- A legal configuration with every parameter at its lower limit (00_scope.md R8). -/
def smallest : Config where
  tStartLow  := 1000
  tStartHigh := 1
  pPoll      := 1
  nResponse  := 1
  nAck       := 1
  nDataStart := 1
  nBitHigh   := 1
  nBitLow    := 1
  tSample    := 1
  tStabilize := 0
  tQuiet     := 0
  zeroPulse  := 0
  onePulse   := 2

/-! Decoding: every word written out bit by bit from the tables of 30_encoding.md. -/

/-- R90: the command word's bit 0. -/
theorem test_decode_cmd :
    decode (.cmd 0b00000000000000000000000000000001#32) = .ok (.start 0) ∧
    decode (.cmd 0b11111111111111111111111111111111#32) = .ok (.start 0x7FFFFFFF) ∧
    decode (.cmd 0b00000000000000000000000000000000#32) = .ok (.nop 0) ∧
    decode (.cmd 0b00000000000000000000000000000110#32) = .ok (.nop 3) := by decide

/-- R91: `we` in bit 8, the byte offset in bits 7:0, reads. -/
theorem test_decode_reads :
    decode (.reg 0b000000000#9 7) = .ok .rdCtrl ∧ decode (.reg 0b000000100#9 7) = .ok .rdStatus ∧
    decode (.reg 0b000001000#9 7) = .ok .rdRaw0 ∧ decode (.reg 0b000001100#9 7) = .ok .rdRaw1 ∧
    decode (.reg 0b000010000#9 7) = .ok .rdReading ∧ decode (.reg 0b000010100#9 7) = .ok .rdReserved14 ∧
    decode (.reg 0b000011000#9 7) = .ok .rdReserved18 ∧ decode (.reg 0b000011100#9 7) = .ok .rdReserved1C := by decide

/-- R91: writes. -/
theorem test_decode_writes :
    decode (.reg 0b100000000#9 7) = .ok (.wrCtrl 7) ∧ decode (.reg 0b100000100#9 7) = .ok (.wrStatus 7) ∧
    decode (.reg 0b100001000#9 7) = .ok (.wrRaw0 7) ∧ decode (.reg 0b100001100#9 7) = .ok (.wrRaw1 7) ∧
    decode (.reg 0b100010000#9 7) = .ok (.wrReading 7) ∧ decode (.reg 0b100010100#9 7) = .ok (.wrReserved14 7) ∧
    decode (.reg 0b100011000#9 7) = .ok (.wrReserved18 7) ∧ decode (.reg 0b100011100#9 7) = .ok (.wrReserved1C 7) := by
  decide

/-- R88: the phase codes. -/
theorem test_decode_phases :
    decode (.phase 0b0000#4) = .ok .idle ∧ decode (.phase 0b0001#4) = .ok .startLow ∧
    decode (.phase 0b0010#4) = .ok .startHigh ∧ decode (.phase 0b0011#4) = .ok .awaitResponse ∧
    decode (.phase 0b0100#4) = .ok .awaitAck ∧ decode (.phase 0b0101#4) = .ok .awaitDataStart ∧
    decode (.phase 0b0110#4) = .ok .bitWaitHigh ∧ decode (.phase 0b0111#4) = .ok .bitSampleDelay ∧
    decode (.phase 0b1000#4) = .ok .bitWaitLow ∧ decode (.phase 0b1001#4) = .ok .finalize := by decide

/-- R89: `line_dir : line_out`. RestoreIdle's word is DriveHigh's. -/
theorem test_decode_line :
    decode (.line 0b10#2) = .ok .driveLow ∧ decode (.line 0b11#2) = .ok .driveHigh ∧ decode (.line 0b01#2) = .ok .release ∧
    decode (encode .restoreIdle) = .ok .driveHigh ∧ decode .sample = .ok .sample := by decide

/-- R63, R96: the reserved words are rejected by name. -/
theorem test_decode_rejects :
    decode (.reg 0b000100000#9 0) = .error .unsupportedAccess ∧ decode (.reg 0b100000010#9 0) = .error .unsupportedAccess ∧
    decode (.phase 0b1010#4) = .error .unreachablePhase ∧ decode (.phase 0b1111#4) = .error .unreachablePhase ∧
    decode (.line 0b00#2) = .error .unreachableLine := by decide

/-- The rows of the opcode table as the table numbers their bits. -/
theorem test_table_words :
    decodeTableWord 32 1 = some (.start 0) ∧ decodeTableWord 32 0 = some (.nop 0) ∧
    decodeTableWord 16 0x118 = some (.wrReserved18 0) ∧ decodeTableWord 16 0x200 = none ∧
    decodeTableWord 8 0x9 = some .finalize ∧ decodeTableWord 8 0x1A = none ∧ decodeTableWord 2 0x1 = some .release ∧
    decodeTableWord 0 0 = some .sample := by decide

/-! What is ill formed (WellFormed): a term for each check. -/

/-- 00_scope.md R8, R9: each lower limit, missed by one; a pulse width that `T_SAMPLE` does not pass, or does not fall below. -/
theorem test_illegal_configurations :
    Config.reference.Legal ∧ smallest.Legal ∧
    ∀ c ∈ [{ smallest with tStartLow := 999 }, { smallest with tStartHigh := 0 }, { smallest with pPoll := 0 },
      { smallest with nResponse := 0 }, { smallest with nAck := 0 }, { smallest with nDataStart := 0 },
      { smallest with nBitHigh := 0 }, { smallest with nBitLow := 0 }, { smallest with tSample := 0, zeroPulse := 0 },
      { smallest with zeroPulse := 1 }, { smallest with onePulse := 1 }], ¬ c.Legal := by decide

/-- 00_scope.md R9: 35 separates 27 from 70; the widths themselves do not. -/
theorem test_separation :
    { Config.reference with zeroPulse := 27, onePulse := 70 }.Separates ∧
    ∀ p ∈ [(35, 70), (27, 35)], ¬ { Config.reference with zeroPulse := p.1, onePulse := p.2 }.Separates := by
  refine ⟨by show Config.Separates _; decide, ?_⟩
  show ∀ p ∈ _, ¬ Config.Separates _
  decide

/-- 20_memory.md R62, R63: the last slot, and offsets that are no slot. -/
theorem test_ill_formed_accesses :
    (HostOp.access 0x11C 0).wellFormed = true ∧ (HostOp.access 0x01C 0).wellFormed = true ∧
    (HostOp.access 0x002 0).wellFormed = false ∧ (HostOp.access 0x01D 0).wellFormed = false ∧
    (HostOp.access 0x020 0).wellFormed = false ∧ (HostOp.access 0x1FC 0).wellFormed = false := by decide

/-- 30_encoding.md R99: a run of no tick. -/
theorem test_ill_formed_script :
    (SensorScript.mk [(.high, 30), (.low, 80)] (some .high)).wellFormed = true ∧
    (SensorScript.mk [(.high, 0)] none).wellFormed = false := by decide

/-! One operation each (95_test_vectors.md). -/

/-- H3: START in the reset state. -/
theorem test_start : nextAnd (exec (.start 0) State.reset) (fun t =>
    decide (t.engine = pulling 4999 ∧ statusWord t.engine = 0x01000101 ∧ t.tick = 0)) = true := by decide

/-- H4: START while busy. -/
theorem test_start_busy : nextAnd (exec (.start 0) (shows .high (pulling 4899))) (fun t =>
    decide (t = shows .high (pulling 4899))) = true := by decide

/-- H9: START clears the old outcome. -/
theorem test_start_clears : nextAnd (exec (.start 5) (shows .high succeeded)) (fun t =>
    decide (t.engine = pulling 4999)) = true := by decide

/-- H5, H6: a write to CTRL with bit 0 = 0, and one with bits 31:1 set. -/
theorem test_wrCtrl :
    nextAnd (exec (.wrCtrl 0xFFFFFFFE) State.reset) (fun t => decide (t = State.reset)) = true ∧
    nextAnd (exec (.wrCtrl 0xFFFFFFFF) State.reset) (fun t => decide (t.engine = pulling 4999)) = true := by decide

theorem test_nop : nextAnd (exec (.nop 9) (shows .low failed)) (fun t => decide (t = shows .low failed)) = true := by decide

/-- H1, H2. -/
theorem test_reads_after_reset :
    nextAnd (exec .rdStatus State.reset) (fun t => decide (t.rdata = 0x03000000)) = true ∧
    nextAnd (exec .rdCtrl State.reset) (fun t => decide (t.rdata = 0)) = true ∧
    nextAnd (exec .rdReserved14 State.reset) (fun t => decide (t.rdata = 0)) = true ∧
    nextAnd (exec .rdReserved18 State.reset) (fun t => decide (t.rdata = 0)) = true ∧
    nextAnd (exec .rdReserved1C State.reset) (fun t => decide (t.rdata = 0)) = true := by decide

/-- H8: the four words after V1. -/
theorem test_reads_after_success :
    nextAnd (exec .rdStatus (shows .high succeeded)) (fun t => decide (t.rdata = 0x03000006)) = true ∧
    nextAnd (exec .rdRaw0 (shows .high succeeded)) (fun t => decide (t.rdata = 0x02080096)) = true ∧
    nextAnd (exec .rdRaw1 (shows .high succeeded)) (fun t => decide (t.rdata = 0x000000A0)) = true ∧
    nextAnd (exec .rdReading (shows .high succeeded)) (fun t => decide (t.rdata = 0x02080096)) = true := by decide

/-- H10, H11, H12, H13, and V8's STATUS. -/
theorem test_status_words :
    statusWord failed = 0x03000012 ∧ statusWord (pushing 19) = 0x03000201 ∧
    statusWord (reads .awaitResponse 0 5) = 0x02000301 ∧
    statusWord (readsBits .bitWaitHigh 0 1 9 4) = 0x02090601 ∧
    statusWord (readsBits .bitWaitLow 1 3 10 9) = 0x020A0801 := by decide

/-- H7. -/
theorem test_ignored_writes :
    nextAnd (exec (.wrStatus 0xFFFFFFFF) State.reset) (fun t => decide (t = State.reset)) = true ∧
    nextAnd (exec (.wrRaw0 1) State.reset) (fun t => decide (t = State.reset)) = true ∧
    nextAnd (exec (.wrRaw1 1) State.reset) (fun t => decide (t = State.reset)) = true ∧
    nextAnd (exec (.wrReading 1) State.reset) (fun t => decide (t = State.reset)) = true ∧
    nextAnd (exec (.wrReserved14 1) State.reset) (fun t => decide (t = State.reset)) = true ∧
    nextAnd (exec (.wrReserved18 1) State.reset) (fun t => decide (t = State.reset)) = true ∧
    nextAnd (exec (.wrReserved1C 1) State.reset) (fun t => decide (t = State.reset)) = true := by decide

/-- D1v to D4v. -/
theorem test_line_operations :
    nextAnd (exec .driveLow State.reset) (fun t => decide (t.engine.LineLow)) = true ∧
    nextAnd (exec .driveHigh (shows .high (pulling 0))) (fun t => decide (t.engine.LineHigh)) = true ∧
    nextAnd (exec .release State.reset) (fun t => decide (t.engine.LineInput)) = true ∧
    nextAnd (exec .restoreIdle (shows .high (reads .awaitAck 0 0))) (fun t => decide (t.engine.LineHigh)) = true := by decide

/-- R132: the result of Sample is the sensed level. -/
theorem test_sample :
    nextAnd (exec .sample (shows .low (reads .awaitAck 0 0))) (fun t => decide (t.sampled = some .low)) = true ∧
    nextAnd (exec .sample (shows .high (reads .awaitAck 0 0))) (fun t => decide (t.sampled = some .high)) = true := by decide

/-- D5v, one step of it. -/
theorem test_idle : nextAnd (exec .idle (shows .low succeeded)) (fun t =>
    decide (t.engine = succeeded ∧ t.tick = 1 ∧ t.sampled = none)) = true := by decide

/-- V4: START_LOW's last step enters START_HIGH with `tmr` 29; START_HIGH's last step releases the line. -/
theorem test_start_pulse :
    nextAnd (exec .startLow (shows .high (pulling 0))) (fun t => decide (t.engine = pushing 29)) = true ∧
    nextAnd (exec .startLow (shows .high (pulling 4999))) (fun t => decide (t.engine = pulling 4998)) = true ∧
    nextAnd (exec .startHigh (shows .high (pushing 0))) (fun t => decide (t.engine = reads .awaitResponse 0 0)) = true ∧
    nextAnd (exec .startHigh (shows .high (pushing 29))) (fun t => decide (t.engine = pushing 28)) = true := by decide

/-- V4 and V15: the 60th sample, high and low, and the step after it. -/
theorem test_awaitResponse :
    nextAnd (exec .awaitResponse (shows .high (reads .awaitResponse 0 59))) (fun t =>
      decide (t.engine = reads .awaitResponse 1 60)) = true ∧
    nextAnd (exec .awaitResponse (shows .low (reads .awaitResponse 0 59))) (fun t =>
      decide (t.engine = reads .awaitAck 0 0)) = true ∧
    nextAnd (exec .awaitResponse (shows .low (reads .awaitResponse 0 60))) (fun t =>
      decide (t.engine = failed ∧ t.sampled = none)) = true := by decide

/-- V5: the end of AWAIT_ACK. -/
theorem test_awaitAck :
    nextAnd (exec .awaitAck (shows .high (reads .awaitAck 0 40))) (fun t =>
      decide (t.engine = reads .awaitDataStart 0 0)) = true ∧
    nextAnd (exec .awaitAck (shows .low (reads .awaitAck 0 50))) (fun t =>
      decide (statusWord t.engine = 0x03000022)) = true := by decide

/-- V6: the end of AWAIT_DATA_START, which clears the frame. -/
theorem test_awaitDataStart :
    nextAnd (exec .awaitDataStart (shows .low (readsBits .awaitDataStart 0 39 3 5))) (fun t =>
      decide (t.engine = reads .bitWaitHigh 0 0)) = true ∧
    nextAnd (exec .awaitDataStart (shows .high (reads .awaitDataStart 0 50))) (fun t =>
      decide (statusWord t.engine = 0x03000032)) = true := by decide

/-- V7: BIT_WAIT_HIGH, and 34 = `T_SAMPLE - 1`. -/
theorem test_bitWaitHigh :
    nextAnd (exec .bitWaitHigh (shows .high (readsBits .bitWaitHigh 0 25 6 1))) (fun t =>
      decide (t.engine = readsBits .bitSampleDelay 34 0 6 1)) = true ∧
    nextAnd (exec .bitWaitHigh (shows .low (reads .bitWaitHigh 0 60))) (fun t =>
      decide (statusWord t.engine = 0x03000042)) = true := by decide

/-- V1: bit 7 is a 1, bit 8 a 0. -/
theorem test_bitSampleDelay :
    nextAnd (exec .bitSampleDelay (shows .high (readsBits .bitSampleDelay 0 0 6 0))) (fun t =>
      decide (t.engine = readsBits .bitWaitLow 0 0 7 1)) = true ∧
    nextAnd (exec .bitSampleDelay (shows .low (readsBits .bitSampleDelay 0 0 7 0x8000000001))) (fun t =>
      decide (t.engine = readsBits .bitWaitLow 0 0 8 2)) = true := by decide

/-- R165: the low after bit 39 and after bit 40; V18's timeout after bit 40. -/
theorem test_bitWaitLow :
    nextAnd (exec .bitWaitLow (shows .low (readsBits .bitWaitLow 0 17 39 7))) (fun t =>
      decide (t.engine = readsBits .bitWaitHigh 0 0 39 7)) = true ∧
    nextAnd (exec .bitWaitLow (shows .low (readsBits .bitWaitLow 0 17 40 7))) (fun t =>
      decide (t.engine = finalizing 7)) = true ∧
    nextAnd (exec .bitWaitLow (shows .high (readsBits .bitWaitLow 0 60 40 7))) (fun t =>
      decide (statusWord t.engine = 0x03000042 ∧ t.engine.CanonicalIdle)) = true := by decide

/-- K1, K2, K3, K5. -/
theorem test_finalize_success :
    nextAnd (exec .finalize (shows .low (finalizing 0x02080096A0))) (fun t => decide (t.engine = succeeded)) = true ∧
    nextAnd (exec .finalize (shows .low (finalizing 0xF010200020))) (fun t =>
      decide (readingWord t.engine = 0xF0102000)) = true ∧
    nextAnd (exec .finalize (shows .low (finalizing 0xFFFFFFFFFC))) (fun t =>
      decide (readingWord t.engine = 0xFFFF8001)) = true ∧
    nextAnd (exec .finalize (shows .low (finalizing 0))) (fun t => decide (statusWord t.engine = 0x03000006)) = true := by
  decide

/-- K4, K6. -/
theorem test_finalize_mismatch :
    nextAnd (exec .finalize (shows .low (finalizing 0xF010200021))) (fun t =>
      decide (statusWord t.engine = 0x03000052 ∧ t.engine.NoResult ∧ t.engine.CanonicalIdle)) = true ∧
    nextAnd (exec .finalize (shows .low (finalizing 1))) (fun t => decide (t.engine.err = some .checksumMismatch)) = true := by
  decide

/-- The table of sign-magnitude conversions. -/
theorem test_sign_magnitude :
    [0x0000, 0x0096, 0x8096, 0x8000, 0x8001, 0x7FFF, 0xFFFF].map signMagToTwos =
      [0x0000, 0x0096, 0xFF6A, 0x0000, 0xFFFF, 0x7FFF, 0x8001] := by decide

/-- 41_line_driver.md R131, 93_implementation_defined.md U4. -/
theorem test_wire :
    (shows .low (reads .awaitAck 0 0)).wire = some .low ∧ (shows .high (pulling 3)).wire = some .low ∧
    (shows .high succeeded).wire = some .high ∧ (shows .low succeeded).wire = none := by decide

/-- P4's RESET, at one boundary. -/
theorem test_reset_pulse :
    nextAnd (Host.Core.run core 2 { shows .low (readsBits .bitWaitHigh 0 1 9 4) with host := HostOp.resetPulse }) (fun t =>
      decide (t.engine = Engine.reset ∧ t.tick = 0 ∧ t.rst = false ∧ t.host = [])) = true := by decide

/-- 60_exceptions.md R206. -/
theorem test_labels :
    [ErrorKind.noResponse, .noAck, .noDataStart, .bitTimeout, .checksumMismatch].map ErrorKind.label =
      ["No Response", "No ACK", "No Data", "Bit Timeout", "Checksum"] := by decide

/-- R252's table for the reference parameters: T2, T3, T4. -/
theorem test_durations :
    Config.reference.shortestSuccess = 6514 ∧ Config.reference.longestSuccess = 16268 ∧
    Config.reference.longestTransaction = 16269 ∧ Config.reference.startPulse = 5030 := by decide

/-! Witnesses: for every obligation with hypotheses, states and operands that meet them together, clause by clause. -/

/-- Legal parameters and an engine that meets the invariant. -/
theorem inv_of {s : State} (h : s.config.Legal) (e : s.engine.Inv s.config) : s.Inv := ⟨h, e⟩

/-- A machine with host operations to come. -/
def hosts (ops : List HostOp) : State := { State.reset with host := ops }

/-- The same with `rst` asserted. -/
def held (ops : List HostOp) : State := { hosts ops with rst := true }

theorem witness_DecodeAndEncodeAgree :
    decode (.cmd 0xFFFFFFFF) = .ok (.start 0x7FFFFFFF) ∧ decode (.reg 0x004 0xFFFFFFFF) = .ok .rdStatus ∧
    decode (.reg 0x11C 0xFFFFFFFF) = .ok (.wrReserved1C 0xFFFFFFFF) ∧ decode (.phase 9) = .ok .finalize ∧
    decode (.line 3) = .ok .driveHigh ∧ decode .sample = .ok .sample := by decide

/-- Both sides of each equivalence, at the edges. -/
theorem witness_RejectedWordsAreTheReservedOnes :
    SlotSelect 0x01C ∧ ¬ SlotSelect 0x01D ∧ ¬ SlotSelect 0x020 ∧ ¬ SlotSelect 0x1FF ∧
    decode (.phase 9) = .ok .finalize ∧ decode (.phase 10) = .error .unreachablePhase ∧
    decode (.line 0) = .error .unreachableLine ∧ decode (.line 1) = .ok .release := by decide

theorem witness_StartAcceptedInIdle :
    State.reset.engine.phase = .idle ∧ (shows .low succeeded).engine.phase = .idle ∧ (0xFFFFFFFF : Word).getLsbD 0 = true := by
  decide

theorem witness_StartIgnoredWhileBusy :
    (shows .high (pulling 0)).engine.phase ≠ .idle ∧ (shows .high (finalizing 0)).engine.phase ≠ .idle ∧
    (1 : Word).getLsbD 0 = true := by decide

theorem witness_NopChangesNothing : (0xFFFFFFFE : Word).getLsbD 0 = false := by decide

/-- Both clauses, at the last slot and just past it, with `rst` released and asserted. -/
theorem witness_AccessSucceedsExactlyAtWordSlots :
    (hosts [.access 0x11C 7]).config.Legal ∧ (hosts [.access 0x11C 7]).host = .access 0x11C 7 :: [] ∧ SlotSelect 0x11C ∧
    (hosts [.access 0x120 7]).host = .access 0x120 7 :: [] ∧ ¬ SlotSelect 0x120 ∧
    (held [.access 0x11C 7]).config.Legal ∧ (held [.access 0x11C 7]).host = .access 0x11C 7 :: [] ∧
    (held [.access 0x120 7]).host = .access 0x120 7 :: [] := by decide

/-- 20_memory.md R63: the refusal comes before reset's dropping of an access (R240). -/
theorem test_unsupported_access_under_reset :
    step (held [.access 0x120 7]) = .refused (.unsupportedAccess 0x120) ∧
    nextAnd (step (held [.access 0x11C 7])) (fun t => decide (t = held [])) = true := ⟨rfl, by decide⟩

theorem witness_HostCannotDisturbATransaction :
    (Instr.start 0).row.format = .cmd ∧ (Instr.wrCtrl 1).row.format = .reg ∧ Instr.rdReading.row.format = .reg ∧
    (shows .high (readsBits .bitSampleDelay 3 0 7 5)).engine.phase ≠ .idle := by decide

theorem witness_PartialFrameAndCountersAreUnreadable :
    Instr.rdStatus ∈ [Instr.rdCtrl, .rdStatus, .rdRaw0, .rdRaw1, .rdReading, .rdReserved14, .rdReserved18, .rdReserved1C] := by
  decide

theorem witness_IdleStepHolds : State.reset.engine.Encodable ∧ (shows .low succeeded).engine.Encodable := by decide

theorem witness_StartLowStep :
    (shows .high (pulling 4999)).engine.Encodable ∧ (shows .high (pulling 4999)).engine.tmr ≠ 0 ∧
    (shows .high (pulling 0)).engine.Encodable ∧ (shows .high (pulling 0)).engine.tmr = 0 := by decide

theorem witness_StartHighStep :
    (shows .high (pushing 1)).engine.Encodable ∧ (shows .high (pushing 1)).engine.tmr ≠ 0 ∧
    (shows .high (pushing 0)).engine.Encodable ∧ (shows .high (pushing 0)).engine.tmr = 0 := by decide

/-- The four clauses of a polling statement: asleep, timed out, each level at the last sample. -/
def pollClauses (p : Phase) (n : BitVec 8) : Prop :=
  ((shows .high (reads p 1 n)).engine.Encodable ∧ (shows .high (reads p 1 n)).engine.tmr ≠ 0) ∧
  ((shows .high (reads p 0 n)).engine.Encodable ∧ (shows .high (reads p 0 n)).engine.tmr = 0 ∧
    (shows .high (reads p 0 n)).engine.iter = n) ∧
  ((shows .low (reads p 0 (n - 1))).engine.Encodable ∧ (shows .low (reads p 0 (n - 1))).engine.tmr = 0 ∧
    (shows .low (reads p 0 (n - 1))).engine.iter ≠ n ∧ (shows .low (reads p 0 (n - 1))).sensed = .low) ∧
  ((shows .high (reads p 0 (n - 1))).engine.Encodable ∧ (shows .high (reads p 0 (n - 1))).engine.tmr = 0 ∧
    (shows .high (reads p 0 (n - 1))).engine.iter ≠ n ∧ (shows .high (reads p 0 (n - 1))).sensed = .high)

theorem witness_AwaitResponseStep : pollClauses .awaitResponse Config.reference.nResponse := by
  show _ ∧ _; decide
theorem witness_AwaitAckStep : pollClauses .awaitAck Config.reference.nAck := by
  show _ ∧ _; decide
theorem witness_AwaitDataStartStep : pollClauses .awaitDataStart Config.reference.nDataStart := by
  show _ ∧ _; decide
theorem witness_BitWaitHighStep : pollClauses .bitWaitHigh Config.reference.nBitHigh := by
  show _ ∧ _; decide
theorem witness_BitWaitLowStep : pollClauses .bitWaitLow Config.reference.nBitLow := by
  show _ ∧ _; decide

theorem witness_BitSampleDelayStep :
    (shows .high (readsBits .bitSampleDelay 34 0 39 5)).engine.Encodable ∧
    (shows .high (readsBits .bitSampleDelay 34 0 39 5)).engine.tmr ≠ 0 ∧
    (shows .low (readsBits .bitSampleDelay 0 0 40 5)).engine.Encodable ∧
    (shows .low (readsBits .bitSampleDelay 0 0 40 5)).engine.tmr = 0 := by decide

/-- Frames K2, whose sum wraps, and K4. -/
theorem witness_FinalizeStep :
    (shows .low (finalizing 0xF010200020)).engine.Encodable ∧ (0xF0 + 0x10 + 0x20 + 0x00) % 256 = (byte4 0xF010200020).toNat ∧
    (shows .low (finalizing 0xF010200021)).engine.Encodable ∧ (0xF0 + 0x10 + 0x20 + 0x00) % 256 ≠ (byte4 0xF010200021).toNat ∧
    [byte0 0xF010200021, byte1 0xF010200021, byte2 0xF010200021, byte3 0xF010200021] = [0xF0, 0x10, 0x20, 0x00] := by decide

theorem witness_ChecksumDecidesSuccess :
    (shows .low (finalizing 0x02080096A0)).engine.Encodable ∧ (shows .low (finalizing 0x02080096A0)).engine.NoResult ∧
    (shows .low (finalizing 0x02080096A1)).engine.Encodable ∧ (shows .low (finalizing 0x02080096A1)).engine.NoResult ∧
    (0x02 + 0x08 + 0x00 + 0x96) % 256 = (byte4 0x02080096A0).toNat ∧
    (0x02 + 0x08 + 0x00 + 0x96) % 256 ≠ (byte4 0x02080096A1).toNat := by decide

/-- An idle engine after the success of vector V2, a negative temperature. -/
def succeededBelowZero : Engine :=
  { Engine.reset with done := true, raw := 0x0208809620, humTenths := 0x0208, tempTenths := 0xFF6A }

theorem witness_SuccessfulReadingAsNumbers :
    ((shows .high succeeded).Inv ∧ (shows .high succeeded).engine.done = true ∧ (shows .high succeeded).engine.err = none) ∧
    ((shows .high succeededBelowZero).Inv ∧ (shows .high succeededBelowZero).engine.done = true ∧
      (shows .high succeededBelowZero).engine.err = none) :=
  ⟨⟨inv_of (by decide) (by show _ ∧ _; decide), by decide, by decide⟩,
   ⟨inv_of (by decide) (by show _ ∧ _; decide), by decide, by decide⟩⟩

/-- `bitn` just past its range, and the line code 0 0. -/
theorem witness_UnreachableCodesFault :
    Instr.idle.row.format = .phase ∧ Instr.finalize.row.format = .phase ∧
    ¬ (shows .high (readsBits .bitWaitLow 0 0 41 0)).engine.Encodable ∧
    ¬ (shows .high { reads .awaitAck 0 0 with lineOut := .low }).engine.Encodable := by decide

/-- A parameter outside its range, and `T_SAMPLE` at the width of the 1 pulse. -/
theorem witness_IllegalParametersAreRefused :
    ¬ { State.reset with config := { smallest with pPoll := 0 } }.config.Legal ∧
    ¬ { State.reset with config := { Config.reference with tSample := 70 } }.config.Legal := by
  show ¬ Config.Legal _ ∧ ¬ Config.Legal _; decide

/-- The four kinds of fetch: a command, an access, no host operation, a wait's last tick and one before it. -/
theorem witness_StepRunsTheDecodedOperation :
    (∀ ops ∈ [[HostOp.command 1], [.access 0x004 0], [], [.wait 1], [.wait 2]],
      (hosts ops).config.Legal ∧ (hosts ops).rst = false ∧ (hosts ops).host = ops) ∧
    decode (.cmd 1) = .ok (.start 0) ∧ decode (.reg 0x004 0) = .ok .rdStatus ∧
    decode (.phase State.reset.engine.phase.code) = .ok .idle := by decide

theorem witness_PlacedWordIsTheNextOperation :
    State.reset.config.Legal ∧ decodeTableWord 32 1 = some (.start 0) ∧ decodeTableWord 16 0x11C = some (.wrReserved1C 0) ∧
    decodeTableWord 8 9 = some .finalize := by decide

/-- The assertion, from a busy engine; under reset, a tick, an access to the last slot, and the release. -/
theorem witness_ResetOverridesEverything :
    ({ shows .high (pulling 7) with host := [.rst true] }.config.Legal ∧
      { shows .high (pulling 7) with host := [.rst true] }.host = .rst true :: []) ∧
    ∀ ops ∈ [[], [HostOp.access 0x11C 1], [.rst false]], (held ops).config.Legal ∧ (held ops).rst = true ∧
      ∀ sel v rest, (held ops).host = .access sel v :: rest → SlotSelect sel := by
  refine ⟨⟨by show Config.Legal _; decide, rfl⟩, ?_⟩
  simp only [List.forall_mem_cons, List.not_mem_nil, IsEmpty.forall_iff, implies_true, and_true]
  refine ⟨⟨by decide, rfl, fun _ _ _ h => ?_⟩, ⟨by decide, rfl, fun _ _ _ h => ?_⟩, ⟨by decide, rfl, fun _ _ _ h => ?_⟩⟩
  · cases h
  · cases h; decide
  · cases h

/-- A step that takes a tick, and one that takes none. -/
theorem witness_ParametersAreConstantAndTimeIsTicks :
    (∃ t, step (hosts []) = .next t ∧ t.tick = 1) ∧ (∃ t, step (hosts [.command 1]) = .next t ∧ t.tick = 0) :=
  ⟨next_of (by decide), next_of (by decide)⟩

/-- A busy state, with bits sampled. -/
theorem witness_EveryStepKeepsTheInvariant :
    (shows .high (readsBits .bitSampleDelay 0 0 39 0x7FFFFFFFFF)).Inv ∧
    ∃ t, step (shows .high (readsBits .bitSampleDelay 0 0 39 0x7FFFFFFFFF)) = .next t ∧ t.engine.bitn = 40 :=
  ⟨inv_of (by decide) (by show _ ∧ _; decide), next_of (by decide)⟩

theorem reset_inv : State.reset.Inv := inv_of (by decide) (by show _ ∧ _; decide)

/-- Both disjuncts, the second with `rst` released and asserted. -/
theorem witness_InvariantStatesAlwaysStep :
    ((shows .high (reads .bitWaitHigh 0 60)).Inv ∧ ∃ t, step (shows .high (reads .bitWaitHigh 0 60)) = .next t ∧
      t.engine.err = some .bitTimeout) ∧
    ¬ SlotSelect 0x020 ∧
    ((hosts [.access 0x020 0]).Inv ∧ step (hosts [.access 0x020 0]) = .refused (.unsupportedAccess 0x020)) ∧
    ((held [.access 0x020 0]).Inv ∧ step (held [.access 0x020 0]) = .refused (.unsupportedAccess 0x020)) :=
  ⟨⟨inv_of (by decide) (by show _ ∧ _; decide), next_of (by decide)⟩, by decide,
   ⟨inv_of (by decide) (by show _ ∧ _; decide), rfl⟩, ⟨inv_of (by decide) (by show _ ∧ _; decide), rfl⟩⟩

/-- From reset with no step taken, and after RESET and one tick. -/
theorem witness_IdleIsCanonicalWhenReached :
    State.reset.config.Legal ∧ State.reset.engine = Engine.reset ∧
    (∃ t, Host.Core.run core 0 State.reset = .next t ∧ t.engine.phase = .idle) ∧
    (∃ t, Host.Core.run core 3 (hosts HostOp.resetPulse) = .next t ∧ t.engine.phase = .idle) :=
  ⟨by decide, rfl, next_of (by decide), next_of (by decide)⟩

/-- The smallest legal machine with one START to come and the line low. -/
def smallestStarted : State :=
  { State.reset with config := smallest, host := [.command 1], sensor := ⟨[], some .low⟩ }

theorem smallest_from_reset : smallestStarted.config.Legal ∧ smallestStarted.engine = Engine.reset := ⟨by decide, rfl⟩

/-- START_LOW, START_HIGH, and a phase in which the line is an input, whose next step samples. -/
theorem witness_LineStateByPhaseWhenReached :
    (∃ t, Host.Core.run core 0 smallestStarted = .next t ∧ t.engine.phase = .idle) ∧
    (∃ t, Host.Core.run core 1 smallestStarted = .next t ∧ t.engine.phase = .startLow ∧ t.engine.LineLow) ∧
    (∃ t, Host.Core.run core 1001 smallestStarted = .next t ∧ t.engine.phase = .startHigh) ∧
    (∃ t, Host.Core.run core 1002 smallestStarted = .next t ∧ t.engine.phase ≠ .idle ∧ t.engine.phase ≠ .startLow ∧
      t.engine.phase ≠ .startHigh ∧
      nextAnd (step t) (fun u => decide (u.tick = t.tick + 1 ∧ u.sampled = some .low)) = true) :=
  ⟨next_of (by decide), next_of (by decide), next_of (by decide +kernel), next_of (by decide +kernel)⟩

/-- The hypotheses of a statement about a change of phase: the invariant, and a step into another phase. -/
def changes (s : State) (p : Phase) : Prop :=
  s.Inv ∧ ∃ t, step s = .next t ∧ t.engine.phase ≠ s.engine.phase ∧ t.engine.phase = p

theorem changes_of {s : State} {p : Phase} (h : s.config.Legal) (e : s.engine.Inv s.config)
    (n : nextAnd (step s) (fun t => decide (t.engine.phase ≠ s.engine.phase ∧ t.engine.phase = p)) = true) : changes s p :=
  ⟨⟨h, e⟩, next_of n⟩

/-- Reset and START. -/
theorem witness_PhaseChangesOnlyAlongTheEdges_host :
    changes { shows .high (pulling 7) with host := [.rst true] } .idle ∧ changes { shows .high (pulling 7) with rst := true } .idle ∧
    changes (hosts [.command 1]) .startLow ∧ changes (hosts [.access 0x100 1]) .startLow := by
  refine ⟨?_, ?_, ?_, ?_⟩ <;> exact changes_of (by decide) (by show _ ∧ _; decide) (by decide)

/-- The edges before the bit loop. -/
theorem witness_PhaseChangesOnlyAlongTheEdges_handshake :
    changes (shows .high (pulling 0)) .startHigh ∧ changes (shows .high (pushing 0)) .awaitResponse ∧
    changes (shows .low (reads .awaitResponse 0 60)) .idle ∧ changes (shows .low (reads .awaitResponse 0 59)) .awaitAck ∧
    changes (shows .high (reads .awaitAck 0 50)) .idle ∧ changes (shows .high (reads .awaitAck 0 49)) .awaitDataStart ∧
    changes (shows .low (reads .awaitDataStart 0 50)) .idle ∧ changes (shows .low (reads .awaitDataStart 0 49)) .bitWaitHigh := by
  refine ⟨?_, ?_, ?_, ?_, ?_, ?_, ?_, ?_⟩ <;> exact changes_of (by decide) (by show _ ∧ _; decide) (by decide)

/-- The edges of the bit loop and of FINALIZE, both outcomes. -/
theorem witness_PhaseChangesOnlyAlongTheEdges_bits :
    changes (shows .high (reads .bitWaitHigh 0 60)) .idle ∧ changes (shows .high (reads .bitWaitHigh 0 59)) .bitSampleDelay ∧
    changes (shows .high (readsBits .bitSampleDelay 0 0 39 0)) .bitWaitLow ∧
    changes (shows .low (readsBits .bitWaitLow 0 60 40 0)) .idle ∧
    changes (shows .low (readsBits .bitWaitLow 0 59 39 0)) .bitWaitHigh ∧
    changes (shows .low (readsBits .bitWaitLow 0 59 40 0)) .finalize ∧
    changes (shows .low (finalizing 0)) .idle ∧ changes (shows .low (finalizing 1)) .idle := by
  refine ⟨?_, ?_, ?_, ?_, ?_, ?_, ?_, ?_⟩ <;> exact changes_of (by decide) (by show _ ∧ _; decide) (by decide)

/-- The hypotheses of the classifier, and the code each of its seven cases leaves. -/
theorem witness_ClassifierDecidesEachOutcome :
    ∀ p ∈ [(reads .awaitResponse 0 60, (1 : BitVec 3)), (reads .awaitAck 0 50, 2), (reads .awaitDataStart 0 50, 3),
      (reads .bitWaitHigh 0 60, 4), (readsBits .bitWaitLow 0 60 40 0, 4), (finalizing 1, 5), (finalizing 0, 0)],
      (shows .high p.1).Inv ∧ p.1.done = false ∧
      ∃ t, step (shows .high p.1) = .next t ∧ t.engine.done = true ∧ errCode t.engine.err = p.2 := by
  simp only [List.forall_mem_cons, List.not_mem_nil, IsEmpty.forall_iff, implies_true, and_true]
  refine ⟨?_, ?_, ?_, ?_, ?_, ?_, ?_⟩ <;>
    exact ⟨inv_of (by decide) (by show _ ∧ _; decide), rfl, next_of (by decide)⟩

/-- Both disjuncts. -/
theorem witness_OutcomeStandsUntilStartOrReset :
    (∃ t, step { shows .high failed with host := [.rst true] } = .next t ∧ t.engine ≠ failed ∧ t.engine = Engine.reset) ∧
    (∃ t, step { shows .high failed with host := [.access 0x100 3] } = .next t ∧ t.engine ≠ failed ∧
      t.engine.phase = .startLow) :=
  ⟨next_of (by decide), next_of (by decide)⟩

/-- A sampling step in each of the six phases. -/
theorem witness_SamplesOnlyWhenDue :
    ∀ p ∈ [Phase.awaitResponse, .awaitAck, .awaitDataStart, .bitWaitHigh, .bitSampleDelay, .bitWaitLow],
      nextAnd (step (shows .low (reads p 0 49))) (fun t => decide (t.tick = 1 ∧ t.sampled = some .low)) = true := by decide

/-- A host access, and a tick that samples nothing. -/
theorem witness_UnsampledLevelsHaveNoEffect :
    (∃ t, step (hosts [.access 0x004 0]) = .next t ∧ t.tick = 0) ∧
    (∃ t, step (shows .low (reads .awaitAck 1 3)) = .next t ∧ t.sampled = none ∧ t.tick = 1) :=
  ⟨next_of (by decide), next_of (by decide)⟩

/-- Busy; done and valid; done and not valid; idle with no outcome. -/
theorem witness_StatusBitsAreConsistent :
    ((shows .high (pulling 3)).Inv ∧ (statusWord (pulling 3)).getLsbD 0 = true) ∧
    ((shows .high succeeded).Inv ∧ (statusWord succeeded).getLsbD 2 = true) ∧
    ((shows .high failed).Inv ∧ (statusWord failed).getLsbD 1 = true ∧ (statusWord failed).getLsbD 2 = false) ∧
    (State.reset.Inv ∧ (statusWord Engine.reset).getLsbD 0 = false ∧ (statusWord Engine.reset).getLsbD 1 = false ∧
      (statusWord Engine.reset).getLsbD 2 = false) :=
  ⟨⟨inv_of (by decide) (by show _ ∧ _; decide), by decide⟩, ⟨inv_of (by decide) (by show _ ∧ _; decide), by decide⟩,
   ⟨inv_of (by decide) (by show _ ∧ _; decide), by decide, by decide⟩, ⟨reset_inv, by decide, by decide, by decide⟩⟩

theorem witness_MachineTicksAreEngineSteps :
    (shows .high (pulling 3)).Inv ∧ (shows .high (pulling 3)).rst = false ∧ (shows .high (pulling 3)).host = [] :=
  ⟨inv_of (by decide) (by show _ ∧ _; decide), rfl, rfl⟩

theorem witness_EveryLevelSequenceIsPossible : (shows .low failed).sensor = ⟨[], some .low⟩ ∧ 2 < 3 := by decide

/-- START_LOW's only tick but the last, and the bounds of the second clause. -/
theorem witness_StartPulseLastsExactly :
    smallest.Legal ∧ Engine.reset.phase = .idle ∧ 999 < smallest.tStartLow.toNat ∧
    smallest.tStartLow.toNat ≤ 1000 ∧ 1000 < smallest.tStartLow.toNat + smallest.tStartHigh.toNat := by decide

/-- A level sequence that is low but for tick `d`. -/
def highAt (d k : Nat) : Level := if k = d then .high else .low

/-- A level sequence that is high but for tick `d`. -/
def lowAt (d k : Nat) : Level := if k = d then .low else .high

/-- Every row of the table; the target seen by the last of the 60 samples (vector V15's place), and never. -/
theorem witness_PollingWindowIsExact :
    Config.reference.Legal ∧
    (∀ r ∈ pollTable Config.reference, (reads r.1 0 0).phase = r.1 ∧ (reads r.1 0 0).tmr = 0 ∧ (reads r.1 0 0).iter = 0) ∧
    (Phase.awaitResponse, Level.low, 60#8, ErrorKind.noResponse) ∈ pollTable Config.reference ∧
    (59 < (60#8).toNat ∧ (∀ i < 59, lowAt 5148 (5030 + i * Config.reference.pPoll.toNat) ≠ .low) ∧
      lowAt 5148 (5030 + 59 * Config.reference.pPoll.toNat) = .low) ∧
    (∀ i < (60#8).toNat, lowAt 5149 (5030 + i * Config.reference.pPoll.toNat) ≠ .low) := by decide +kernel

/-- The fastest pass of vector T2's first bit, reading 0. -/
theorem witness_BitPassTakesExactly_first :
    Config.reference.Legal ∧ (reads .bitWaitHigh 0 0).phase = .bitWaitHigh ∧ (reads .bitWaitHigh 0 0).bitn.toNat < 40 ∧
    0 < Config.reference.nBitHigh.toNat ∧ (∀ m < 0, highAt 5033 (5033 + m * 2) = .low) ∧ highAt 5033 5033 = .high ∧
    0 < Config.reference.nBitLow.toNat ∧ highAt 5033 (5033 + 35 + 1) = .low := by decide

/-- The slowest pass, of the fortieth bit, reading 1: the high in the last sample, the low in the last sample. -/
theorem witness_BitPassTakesExactly_last :
    (readsBits .bitWaitHigh 0 0 39 5).bitn.toNat < 40 ∧ 59 < Config.reference.nBitHigh.toNat ∧
    (∀ m < 59, (if 118 ≤ m * 2 ∧ m * 2 < 272 then Level.high else .low) = .low) ∧
    (if 118 ≤ 118 ∧ 118 < 272 then Level.high else .low) = .high ∧ 59 < Config.reference.nBitLow.toNat ∧
    (∀ m < 59, (if 118 ≤ 154 + m * 2 ∧ 154 + m * 2 < 272 then Level.high else .low) = .high) ∧
    (if 118 ≤ 154 + 59 * 2 ∧ 154 + 59 * 2 < 272 then Level.high else .low) = .low := by decide

/-- A pulse of width `w` that rises in tick `r`. -/
def pulse (r w k : Nat) : Level := if r ≤ k ∧ k < r + w then .high else .low

/-- Vectors B1 to B4, counted from the tick BIT_WAIT_HIGH is entered: rising on a sample and between two, 35 to 37 ticks wide; and a
pulse of one tick that a sample meets. -/
theorem witness_PulseWidthDecidesTheBit :
    Config.reference.Legal ∧ (reads .bitWaitHigh 0 0).phase = .bitWaitHigh ∧ (reads .bitWaitHigh 0 0).tmr = 0 ∧
    (reads .bitWaitHigh 0 0).iter = 0 ∧
    ∀ p ∈ [(50, 35), (50, 36), (49, 36), (49, 37), (118, 35), (50, 1)],
      p.1 ≤ 0 + (Config.reference.nBitHigh.toNat - 1) * Config.reference.pPoll.toNat ∧
      (Config.reference.pPoll.toNat ≤ p.2 ∨ ∃ j < 60, p.1 ≤ 0 + j * Config.reference.pPoll.toNat ∧
        0 + j * Config.reference.pPoll.toNat < p.1 + p.2) ∧
      (∀ k < p.1, pulse p.1 p.2 k = .low) ∧ (∀ k < p.1 + p.2, p.1 ≤ k → pulse p.1 p.2 k = .high) ∧
      (∀ k < p.1 + Config.reference.pPoll.toNat + Config.reference.tSample.toNat + 1, p.1 + p.2 ≤ k → pulse p.1 p.2 k = .low) := by
  decide +kernel

theorem witness_EveryTransactionEndsWithinTheBound :
    smallest.Legal ∧ Config.reference.Legal ∧ succeeded.phase = .idle ∧ failed.phase = .idle := by decide

/-- The levels of the fastest success of the smallest machine, every bit 0 (as vector T2). -/
def fastest (k : Nat) : Level :=
  if k < 1001 then .low else if k < 1004 then (if k = 1002 then .high else .low)
  else if (k - 1004) % 3 = 0 then .high else .low

/-- The shortest success of the smallest machine: it ends in tick 1125 and not before. -/
theorem witness_SuccessTakesBetweenShortestAndLongest :
    smallest.Legal ∧ Engine.reset.phase = .idle ∧
    (Engine.run smallest fastest 0 (Engine.reset.acceptStart smallest) 1125).done = true ∧
    (Engine.run smallest fastest 0 (Engine.reset.acceptStart smallest) 1125).err = none ∧
    ∀ m < 1125, (Engine.run smallest fastest 0 (Engine.reset.acceptStart smallest) m).done = false := by
  refine ⟨by decide, rfl, by decide +kernel, by decide +kernel, fun m hm => ?_⟩
  have h : (Engine.run smallest fastest 0 (Engine.reset.acceptStart smallest) 1124).done = false := by decide +kernel
  by_contra hd
  have := Engine.run_keeps_done smallest fastest 0 (Engine.reset.acceptStart smallest) (Nat.le_of_lt_succ hm) (by simpa using hd)
  simp [h] at this

theorem witness_SilentSensorGivesNoResponse :
    Config.reference.Legal ∧ Engine.reset.phase = .idle ∧
    ∀ m, 0 + Config.reference.startPulse ≤ m → (fun _ : Nat => Level.high) m = .high := by
  refine ⟨by decide, rfl, fun _ _ => rfl⟩

theorem witness_NominalSensorRoundTrip : Engine.reset.phase = .idle ∧ succeeded.phase = .idle := by decide

/-- From reset, and from an idle machine that still holds an earlier outcome. -/
theorem witness_PerformReadingAlwaysReturns :
    ((hosts HostOp.performReading).Inv ∧ (hosts HostOp.performReading).rst = false ∧
      (hosts HostOp.performReading).engine.phase = .idle ∧ (hosts HostOp.performReading).host = HostOp.performReading ++ []) ∧
    ({ shows .low failed with host := HostOp.performReading }.Inv ∧
      { shows .low failed with host := HostOp.performReading }.rst = false ∧
      { shows .low failed with host := HostOp.performReading }.engine.phase = .idle ∧
      { shows .low failed with host := HostOp.performReading }.host = HostOp.performReading ++ []) :=
  ⟨⟨inv_of (by decide) (by show _ ∧ _; decide), rfl, rfl, rfl⟩, ⟨inv_of (by decide) (by show _ ∧ _; decide), rfl, rfl, rfl⟩⟩

end Sys2Proof.Tests
end

section
/-! PROOFS. The invariant of the engine's elements under one engine step: each phase keeps `Engine.Inv` (10_state.md R40). -/

namespace Sys2Proof.Machine

variable {c : Config} {S : Engine}

/-! `Engine.Inv` where the phase is known. -/

theorem Engine.inv_idle (h : S.phase = .idle) :
    S.Inv c ↔ S.LineHigh ∧ S.NoBits ∧ S.tmr = 0 ∧ S.iter = 0 ∧ S.OutcomeOfIdle := by
  simp only [Inv, h]

theorem Engine.inv_startLow (h : S.phase = .startLow) :
    S.Inv c ↔ S.NoOutcome ∧ S.LineLow ∧ S.NoBits ∧ S.iter = 0 ∧ S.tmr.toNat < c.tStartLow.toNat := by
  simp only [Inv, h]

theorem Engine.inv_startHigh (h : S.phase = .startHigh) :
    S.Inv c ↔ S.NoOutcome ∧ S.LineHigh ∧ S.NoBits ∧ S.iter = 0 ∧ S.tmr.toNat < c.tStartHigh.toNat := by
  simp only [Inv, h]

theorem Engine.inv_awaitResponse (h : S.phase = .awaitResponse) :
    S.Inv c ↔ S.NoOutcome ∧ S.LineInput ∧ S.NoBits ∧ S.PollCounters c c.nResponse := by
  simp only [Inv, h]

theorem Engine.inv_awaitAck (h : S.phase = .awaitAck) :
    S.Inv c ↔ S.NoOutcome ∧ S.LineInput ∧ S.NoBits ∧ S.PollCounters c c.nAck := by
  simp only [Inv, h]

theorem Engine.inv_awaitDataStart (h : S.phase = .awaitDataStart) :
    S.Inv c ↔ S.NoOutcome ∧ S.LineInput ∧ S.NoBits ∧ S.PollCounters c c.nDataStart := by
  simp only [Inv, h]

theorem Engine.inv_bitWaitHigh (h : S.phase = .bitWaitHigh) :
    S.Inv c ↔ S.NoOutcome ∧ S.LineInput ∧ S.bitn.toNat < 40 ∧ S.AssembledBelow ∧ S.PollCounters c c.nBitHigh := by
  simp only [Inv, h]

theorem Engine.inv_bitSampleDelay (h : S.phase = .bitSampleDelay) :
    S.Inv c ↔ S.NoOutcome ∧ S.LineInput ∧ S.bitn.toNat < 40 ∧ S.AssembledBelow ∧ S.iter = 0 ∧
      S.tmr.toNat < c.tSample.toNat := by
  simp only [Inv, h]

theorem Engine.inv_bitWaitLow (h : S.phase = .bitWaitLow) :
    S.Inv c ↔ S.NoOutcome ∧ S.LineInput ∧ 1 ≤ S.bitn.toNat ∧ S.bitn.toNat ≤ 40 ∧ S.AssembledBelow ∧
      S.PollCounters c c.nBitLow := by
  simp only [Inv, h]

theorem Engine.inv_finalize (h : S.phase = .finalize) :
    S.Inv c ↔ S.NoOutcome ∧ S.LineInput ∧ S.bitn = 40 ∧ S.tmr = 0 ∧ S.iter = 0 := by
  simp only [Inv, h]

/-! What the invariant excludes. -/

/-- No bits sampled, or no more than 40, and a line that is driven or was last driven high: codes the rules produce. -/
theorem Engine.Inv.encodable (h : S.Inv c) : S.Encodable := by
  cases hp : S.phase <;> simp only [Inv, hp] at h
  case idle =>
    obtain ⟨⟨hd, -⟩, ⟨hb, -⟩, -⟩ := h
    simp [Encodable, hd, hb]
  case startLow | startHigh =>
    obtain ⟨-, ⟨hd, -⟩, ⟨hb, -⟩, -⟩ := h
    simp [Encodable, hd, hb]
  case awaitResponse | awaitAck | awaitDataStart =>
    obtain ⟨-, ⟨-, ho⟩, ⟨hb, -⟩, -⟩ := h
    simp [Encodable, ho, hb]
  case bitWaitHigh | bitSampleDelay =>
    obtain ⟨-, ⟨-, ho⟩, hb, -⟩ := h
    exact ⟨hb.le, by simp [ho]⟩
  case bitWaitLow =>
    obtain ⟨-, ⟨-, ho⟩, -, hb, -⟩ := h
    exact ⟨hb, by simp [ho]⟩
  case finalize =>
    obtain ⟨-, ⟨-, ho⟩, hb, -⟩ := h
    simp [Encodable, ho, hb]

/-! The ends of a transaction. -/

/-- A failure ends in the canonical idle with no result (60_exceptions.md R207). -/
theorem Engine.inv_abort (e : ErrorKind) (h : S.NoResult) : (S.abort e).Inv c :=
  ⟨⟨rfl, rfl⟩, ⟨rfl, rfl⟩, rfl, rfl, nofun, fun _ => h, nofun⟩

/-- FINALIZE ends in the canonical idle, with the frame's reading or with no result (44_finalize_decode.md R181). -/
theorem Engine.inv_finalize_step (h : S.NoResult) : S.finalize.Inv c := by
  cases hm : checksumMatches S.shreg
  · rw [finalize_of_mismatch hm]
    exact inv_abort .checksumMismatch h
  · rw [finalize_of_match hm]
    exact ⟨⟨rfl, rfl⟩, ⟨rfl, rfl⟩, rfl, rfl, nofun, by simp, fun _ _ => ⟨hm, rfl, rfl⟩⟩

/-! The counters. -/

/-- A polling phase is entered with both counters 0 (10_state.md R24). -/
theorem Engine.pollCounters_of_zero (hp : 1 ≤ c.pPoll.toNat) (n : BitVec 8) (ht : S.tmr = 0) (hi : S.iter = 0) :
    S.PollCounters c n :=
  ⟨by simp [hi], by rw [ht]; exact hp, fun _ => ht⟩

/-- A waiting tick keeps the counters of a polling phase in range. -/
theorem Engine.pollCounters_sleep {n : BitVec 8} (h : S.PollCounters c n) (ht : S.tmr ≠ 0) :
    { S with tmr := S.tmr - 1 }.PollCounters c n := by
  obtain ⟨hi, htm, hz⟩ := h
  exact ⟨hi, by show (S.tmr - 1).toNat < _; bv_omega, fun h0 => absurd (hz h0) ht⟩

/-- A sample that misses the target keeps the counters of a polling phase in range (42_start_handshake.md R143). -/
theorem Engine.pollCounters_miss {n : BitVec 8} (hp : 1 ≤ c.pPoll.toNat) (h : S.PollCounters c n) (hn : S.iter ≠ n) :
    { S with iter := S.iter + 1, tmr := c.pPoll.setWidth 16 - 1 }.PollCounters c n := by
  obtain ⟨hi, -, -⟩ := h
  have hadd : (S.iter + 1).toNat = S.iter.toNat + 1 := by bv_omega
  refine ⟨?_, ?_, fun h0 => ?_⟩
  · show (S.iter + 1).toNat ≤ n.toNat
    bv_omega
  · show (c.pPoll.setWidth 16 - 1).toNat < c.pPoll.toNat
    bv_omega
  · have : (S.iter + 1).toNat = 0 := congrArg BitVec.toNat h0
    omega

/-- A register loaded with `w - 1` is below `w`. -/
theorem toNat_sub_one_lt {w : BitVec 16} (h : 1 ≤ w.toNat) : (w - 1).toNat < w.toNat := by bv_omega

/-- The frame assembler adds one bit at the bottom (43_bit_readout.md R168). -/
theorem shiftIn_toNat_lt {f : Frame} {n : Nat} (h : f.toNat < 2 ^ n) (l : Level) : (shiftIn f l).toNat < 2 ^ (n + 1) := by
  have hb : (l.bit.setWidth 40).toNat < 2 ^ (n + 1) := by
    have : (l.bit.setWidth 40).toNat < 2 := by cases l <;> decide
    have := Nat.one_le_two_pow (n := n)
    omega
  have hs : (f <<< 1).toNat < 2 ^ (n + 1) := by
    rw [BitVec.toNat_shiftLeft, Nat.shiftLeft_eq]
    exact (Nat.mod_le _ _).trans_lt (by omega)
  rw [shiftIn, BitVec.toNat_or]
  exact Nat.or_lt_two_pow hs hb

/-! One step of each kind of phase. -/

/-- A timed step keeps the invariant where the phase has it for every `tmr` below `m` (`stays`) and the action establishes it. -/
theorem Engine.inv_timed {a : Engine} {m : Nat} (ht : S.tmr.toNat < m)
    (stays : ∀ tm : BitVec 16, tm.toNat < m → { S with tmr := tm }.Inv c) (act : a.Inv c) : (S.timed a).Inv c := by
  rcases timed_cases S a with ⟨hz, he⟩ | ⟨-, he⟩ <;> rw [he]
  · exact stays _ (by bv_omega)
  · exact act

/-- A polling step keeps the invariant where the phase has it for all counters in range (`stays`) and the hit establishes it. -/
theorem Engine.inv_poll {target : Level} {n : BitVec 8} {e : ErrorKind} {next : Engine → Engine} {l : Level}
    (hp : 1 ≤ c.pPoll.toNat) (ho : S.NoOutcome) (hc : S.PollCounters c n)
    (stays : ∀ tm it, { S with tmr := tm, iter := it }.PollCounters c n → { S with tmr := tm, iter := it }.Inv c)
    (hit : (next { S with tmr := 0, iter := 0 }).Inv c) : (S.poll c target n e next l).Inv c := by
  obtain ⟨-, -, hr⟩ := ho
  rcases poll_cases c target n e next l S with ⟨ht, he⟩ | ⟨-, -, he⟩ | ⟨-, -, -, he⟩ | ⟨-, hn, -, he⟩ <;> rw [he]
  · exact stays _ S.iter (pollCounters_sleep hc ht)
  · exact inv_abort e hr
  · exact hit
  · exact stays _ _ (pollCounters_miss hp hc hn)

/-- Every engine step keeps the invariant of the elements (10_state.md R22, R24, R27, R28, R42, R43, R46). -/
theorem Engine.Inv.step (hc : c.Legal) (h : S.Inv c) (l : Level) : (S.step c l).Inv c := by
  obtain ⟨-, hstartHigh, hpoll, -, -, -, -, -, hsample, -⟩ := hc
  have entered : ∀ n, { S with tmr := 0, iter := 0 }.PollCounters c n := fun n => pollCounters_of_zero hpoll n rfl rfl
  cases hp : S.phase <;> simp only [Engine.step, hp]
  case idle => exact h
  case startLow =>
    obtain ⟨ho, hl, hb, hi, ht⟩ := (inv_startLow hp).mp h
    exact inv_timed ht (fun _ ht' => (inv_startLow (by exact hp)).mpr ⟨ho, hl, hb, hi, ht'⟩)
      ⟨ho, ⟨rfl, rfl⟩, hb, hi, toNat_sub_one_lt hstartHigh⟩
  case startHigh =>
    obtain ⟨ho, hl, hb, hi, ht⟩ := (inv_startHigh hp).mp h
    exact inv_timed ht (fun _ ht' => (inv_startHigh (by exact hp)).mpr ⟨ho, hl, hb, hi, ht'⟩) ⟨ho, ⟨rfl, hl.2⟩, hb, entered _⟩
  case awaitResponse =>
    obtain ⟨ho, hl, hb, hk⟩ := (inv_awaitResponse hp).mp h
    exact inv_poll hpoll ho hk (fun _ _ hk' => (inv_awaitResponse (by exact hp)).mpr ⟨ho, hl, hb, hk'⟩) ⟨ho, hl, hb, entered _⟩
  case awaitAck =>
    obtain ⟨ho, hl, hb, hk⟩ := (inv_awaitAck hp).mp h
    exact inv_poll hpoll ho hk (fun _ _ hk' => (inv_awaitAck (by exact hp)).mpr ⟨ho, hl, hb, hk'⟩) ⟨ho, hl, hb, entered _⟩
  case awaitDataStart =>
    obtain ⟨ho, hl, hb, hk⟩ := (inv_awaitDataStart hp).mp h
    exact inv_poll hpoll ho hk (fun _ _ hk' => (inv_awaitDataStart (by exact hp)).mpr ⟨ho, hl, hb, hk'⟩)
      ⟨ho, hl, (by decide : (0 : BitVec 6).toNat < 40), (by decide : (0 : Frame).toNat < 2 ^ (0 : BitVec 6).toNat), entered _⟩
  case bitWaitHigh =>
    obtain ⟨ho, hl, hb, ha, hk⟩ := (inv_bitWaitHigh hp).mp h
    exact inv_poll hpoll ho hk (fun _ _ hk' => (inv_bitWaitHigh (by exact hp)).mpr ⟨ho, hl, hb, ha, hk'⟩)
      ⟨ho, hl, hb, ha, rfl, toNat_sub_one_lt hsample⟩
  case bitSampleDelay =>
    obtain ⟨ho, hl, hb, ha, hi, ht⟩ := (inv_bitSampleDelay hp).mp h
    have hadd : (S.bitn + 1).toNat = S.bitn.toNat + 1 := by bv_omega
    have hsh : (shiftIn S.shreg l).toNat < 2 ^ (S.bitn + 1).toNat := hadd ▸ shiftIn_toNat_lt ha l
    exact inv_timed ht (fun _ ht' => (inv_bitSampleDelay (by exact hp)).mpr ⟨ho, hl, hb, ha, hi, ht'⟩)
      ⟨ho, hl, by show 1 ≤ (S.bitn + 1).toNat; omega, by show (S.bitn + 1).toNat ≤ 40; omega, hsh, entered _⟩
  case bitWaitLow =>
    obtain ⟨ho, hl, hb1, hb40, ha, hk⟩ := (inv_bitWaitLow hp).mp h
    refine inv_poll hpoll ho hk (fun _ _ hk' => (inv_bitWaitLow (by exact hp)).mpr ⟨ho, hl, hb1, hb40, ha, hk'⟩) ?_
    by_cases hn : S.bitn = Config.nBits
    · exact (inv_finalize (if_pos hn)).mpr ⟨ho, hl, hn, rfl, rfl⟩
    · have hlt : S.bitn.toNat < 40 := lt_of_le_of_ne hb40 fun he => hn (BitVec.eq_of_toNat_eq he)
      exact (inv_bitWaitHigh (if_neg hn)).mpr ⟨ho, hl, hlt, ha, entered _⟩
  case finalize =>
    obtain ⟨⟨-, -, hr⟩, -⟩ := (inv_finalize hp).mp h
    exact inv_finalize_step hr

end Sys2Proof.Machine
end

section
/-! PROOFS. Every finite sequence of levels has a sensor script (00_scope.md R7, 41_line_driver.md R132). -/

namespace Sys2Proof

/-- Ticks of a script may be counted from either end. -/
theorem SensorScript.advance_after (sc : SensorScript) (k : Nat) : sc.advance.after k = sc.after (k + 1) := by
  induction k with
  | zero => rfl
  | succ k ih => rw [after, ih, ← after]

/-- The script that shows the first `n` levels of `L`, one run of one tick for each (30_encoding.md R99). -/
def SensorScript.showing (L : Nat → Level) (n : Nat) : SensorScript where
  runs := (List.range n).map fun k => (L k, 1)
  tail := none

theorem SensorScript.showing_wellFormed (L : Nat → Level) (n : Nat) : (showing L n).wellFormed = true := by
  simp [wellFormed, showing]

/-- A tick uses up one run that lasts one tick. -/
theorem scriptAdvance_of_unit_runs {rs : List (Level × Nat)} (h : ∀ r ∈ rs, r.2 = 1) : scriptAdvance rs = rs.tail := by
  match rs, h with
  | [], _ => rfl
  | (l, n) :: rest, h =>
    obtain rfl : n = 1 := h _ List.mem_cons_self
    rfl

/-- After `k` ticks `k` runs of the script are used up. -/
theorem SensorScript.showing_after_runs (L : Nat → Level) (n k : Nat) :
    ((showing L n).after k).runs = (showing L n).runs.drop k := by
  induction k with
  | zero => rfl
  | succ k ih =>
    have unit : ∀ r ∈ (showing L n).runs.drop k, r.2 = 1 := fun r hr => by
      obtain ⟨_, -, rfl⟩ := List.mem_map.mp (List.mem_of_mem_drop hr)
      rfl
    rw [after, advance, ih, scriptAdvance_of_unit_runs unit, List.tail_drop]

/-- After `k < n` ticks the script shows `L k`, whatever the free levels are. -/
theorem SensorScript.showing_level (L : Nat → Level) {n k : Nat} (hk : k < n) (tick : Nat) :
    ((showing L n).after k).level tick = L k := by
  have hlen : k < (showing L n).runs.length := by simpa [showing] using hk
  have hhead : (showing L n).runs[k] = (L k, 1) := by simp [showing]
  rw [level, showing_after_runs, List.drop_eq_getElem_cons hlen, hhead, scriptLevel_cons _ _ _ _ Nat.one_pos]
  rfl

/-- Settles O51: the script with one run for each level. -/
theorem everyLevelSequenceIsPossible : Obligations.EveryLevelSequenceIsPossible := by
  intro L n
  refine ⟨.showing L n, SensorScript.showing_wellFormed L n, fun s hs k hk => ?_⟩
  rw [Machine.State.sensedAfter, hs]
  exact SensorScript.showing_level L hk _

end Sys2Proof
end

section
/-! PROOFS. The machine's step: what it refuses, what it never changes, and its agreement with the engine's runs when the host does
nothing. -/

namespace Sys2Proof.Machine

/-- With no host operation to come a step is one tick of `EngineStep` under the sensed level (10_state.md R40). -/
theorem step_of_no_host {s : State} (hc : s.config.Legal) (hr : s.rst = false) (hh : s.host = []) (he : s.engine.Encodable) :
    step s = .next (s.afterTick (s.engine.step s.config s.sensed)
      (if s.engine.samples s.config then some s.sensed else none)) := by
  obtain ⟨i, hf, -, hx⟩ := fetchEngine_exec s
  have hfetch : fetch s = .run i s := by simp [fetch, hc, hr, fetchReleased, hh, hf]
  rw [step, hfetch]
  exact hx.trans (engineTick_of_encodable he _ _)

/-- The levels sensed from the next tick on. -/
theorem State.sensedAfter_afterTick (s : State) (S : Engine) (o : Option Level) (k : Nat) :
    (s.afterTick S o).sensedAfter k = s.sensedAfter (1 + k) := by
  show (s.sensor.advance.after k).level (s.tick + 1 + k) = (s.sensor.after (1 + k)).level (s.tick + (1 + k))
  rw [SensorScript.advance_after, Nat.add_comm 1 k, Nat.add_right_comm, Nat.add_assoc]

/-- A run depends only on the levels of its own ticks. -/
theorem Engine.run_congr (c : Config) {L L' : Nat → Level} {k k' : Nat} (S : Engine) {n : Nat}
    (h : ∀ i < n, L (k + i) = L' (k' + i)) : Engine.run c L k S n = Engine.run c L' k' S n := by
  induction n with
  | zero => rfl
  | succ n ih => rw [run, run, ih fun i hi => h i (hi.trans n.lt_succ_self), h n n.lt_succ_self]

/-- A run of the machine begins with its step. -/
theorem core_run_succ {s u : State} (h : step s = .next u) (n : Nat) :
    Host.Core.run core (n + 1) s = Host.Core.run core n u := by
  have hs : core.step s = .next u := h
  simp only [Host.Core.run, hs]

/-- A step of a machine that is not this hardware (70_reset_and_hazards.md R245). -/
theorem step_of_illegal {s : State} (h : ¬ s.config.Legal) : step s = .refused .illegalConfiguration := by
  rw [step, fetch, if_neg h]

/-- Settles O37: none of the five things a step can do (`step_cases`) writes a parameter, and only the two ticks move time. -/
theorem parametersAreConstantAndTimeIsTicks : Obligations.ParametersAreConstantAndTimeIsTicks := by
  intro s t h
  obtain ⟨-, h⟩ := step_cases h
  obtain ⟨-, ops, rfl | rfl⟩ | ⟨b, rest, -, rfl⟩ | ⟨-, ops, w, rfl⟩ | ⟨-, op, rest, -, -, rfl⟩ | ⟨-, -, ops, rfl⟩ := h
  · exact ⟨rfl, .inr ⟨rfl, rfl⟩⟩
  · exact ⟨rfl, .inl ⟨rfl, rfl⟩⟩
  · exact ⟨rfl, .inl ⟨rfl, rfl⟩⟩
  · exact ⟨rfl, .inl ⟨rfl, rfl⟩⟩
  · exact ⟨rfl, .inl ⟨rfl, rfl⟩⟩
  · exact ⟨rfl, .inr ⟨rfl, rfl⟩⟩

/-- Settles O50, by induction on the number of steps, the invariant carried along: it rules out the codes of 30_encoding.md R96, the
only fault of an engine step. -/
theorem machineTicksAreEngineSteps : Obligations.MachineTicksAreEngineSteps := by
  intro n
  induction n with
  | zero => exact fun s _ _ hh => ⟨s, rfl, rfl, rfl, hh, rfl⟩
  | succ n ih =>
    rintro s ⟨hc, hi⟩ hr hh
    have hstep := step_of_no_host hc hr hh hi.encodable
    obtain ⟨t, hrun, heng, htick, hhost, hconf⟩ := ih (s.afterTick _ _) ⟨hc, hi.step hc s.sensed⟩ hr hh
    refine ⟨t, (core_run_succ hstep n).trans hrun, ?_, htick.trans (Nat.succ_add_eq_add_succ s.tick n), hhost, hconf⟩
    rw [heng, Engine.run_succ]
    refine Engine.run_congr s.config _ fun i _ => ?_
    rw [State.sensedAfter_afterTick, Nat.zero_add, Nat.zero_add]

/-- Settles O32: `fetch` tests the configuration before anything else. -/
theorem illegalParametersAreRefused : Obligations.IllegalParametersAreRefused :=
  fun _ => step_of_illegal

end Sys2Proof.Machine
end

section
/-! PROOFS. The invariant of the machine: it holds at reset (10_state.md R45) and every step keeps it, so every state reached has
it. -/

namespace Sys2Proof.Machine

/-- The reset values meet the invariant, whatever the parameters are: the canonical idle with no outcome. -/
theorem Engine.inv_reset (c : Config) : Engine.reset.Inv c :=
  ⟨⟨rfl, rfl⟩, ⟨rfl, rfl⟩, rfl, rfl, fun _ => rfl, fun _ => ⟨rfl, rfl, rfl⟩, nofun⟩

/-- An accepted START establishes the invariant: it loads `tmr` with `T_START_LOW - 1` and clears the rest (40_host_commands.md R110). -/
theorem Engine.inv_acceptStart {c : Config} {S : Engine} (hc : c.Legal) (hp : S.phase = .idle) : (S.acceptStart c).Inv c := by
  have hload : (c.tStartLow - 1).toNat < c.tStartLow.toNat := toNat_sub_one_lt (Nat.one_le_of_lt hc.1)
  rw [acceptStart_of_idle c hp]
  exact ⟨⟨rfl, rfl, rfl, rfl, rfl⟩, ⟨rfl, rfl⟩, ⟨rfl, rfl⟩, rfl, hload⟩

/-- START, accepted or ignored, keeps the invariant. -/
theorem Engine.Inv.acceptStart {c : Config} {S : Engine} (hc : c.Legal) (h : S.Inv c) : (S.acceptStart c).Inv c := by
  by_cases hp : S.phase = .idle
  · exact inv_acceptStart hc hp
  · rwa [acceptStart_of_busy c hp]

/-- Settles O38: the reference parameters are legal. -/
theorem invariantHoldsAtReset : Obligations.InvariantHoldsAtReset :=
  ⟨by decide, Engine.inv_reset _⟩

/-- Settles O39, by the five things a step can do (`step_cases`): reset, START and the engine's step keep the invariant of the
elements, the others leave the elements alone. -/
theorem everyStepKeepsTheInvariant : Obligations.EveryStepKeepsTheInvariant := by
  rintro s t ⟨hc, hi⟩ h
  obtain ⟨-, h⟩ := step_cases h
  obtain ⟨-, ops, rfl | rfl⟩ | ⟨b, rest, -, rfl⟩ | ⟨-, ops, w, rfl⟩ | ⟨-, op, rest, -, -, rfl⟩ | ⟨-, -, ops, rfl⟩ := h
  · exact ⟨hc, Engine.inv_reset _⟩
  · exact ⟨hc, Engine.inv_reset _⟩
  · refine ⟨hc, ?_⟩
    rw [State.setRst_engine]
    split
    · exact Engine.inv_reset _
    · exact hi
  · exact ⟨hc, hi⟩
  · exact ⟨hc, hi.acceptStart hc⟩
  · exact ⟨hc, hi.step hc s.sensed⟩

/-- The invariant holds in every state a run reaches from a state that has it. -/
theorem State.Inv.run {n : Nat} {s t : State} (hs : s.Inv) (h : Host.Core.run core n s = .next t) : t.Inv := by
  induction n generalizing s with
  | zero =>
    obtain rfl : s = t := by injection h
    exact hs
  | succ n ih =>
    simp only [Host.Core.run] at h
    split at h
    next u hu => exact ih (everyStepKeepsTheInvariant s u hs hu) h
    all_goals cases h

/-- The invariant holds in every state reached from the reset values of the elements, under any legal parameters. -/
theorem State.inv_of_reached {n : Nat} {s t : State} (hc : s.config.Legal) (hr : s.engine = Engine.reset)
    (h : Host.Core.run core n s = .next t) : t.Inv :=
  State.Inv.run ⟨hc, hr ▸ Engine.inv_reset _⟩ h

/-- Settles O41: what the invariant says of IDLE. -/
theorem idleIsCanonicalWhenReached : Obligations.IdleIsCanonicalWhenReached := by
  intro s t n hc hr hrun hp
  obtain ⟨hline, ⟨hbitn, hshreg⟩, htmr, hiter, -⟩ := (Engine.inv_idle hp).mp (State.inv_of_reached hc hr hrun).engine
  exact ⟨htmr, hiter, hbitn, hshreg, hline⟩

end Sys2Proof.Machine
end

section
/-! PROOFS. The words of the register window: STATUS field by field (10_state.md R33), the result words as numbers (R34 to R36), and
the reads that return them (40_host_commands.md R113 to R118). -/

namespace Sys2Proof

theorem Level.bit_getLsbD (l : Level) : l.bit.getLsbD 0 = decide (l = .high) := by cases l <;> rfl

theorem Direction.bit_getLsbD (d : Direction) : d.bit.getLsbD 0 = decide (d = .output) := by cases d <;> rfl

end Sys2Proof

namespace Sys2Proof.Machine

/-! The fields of STATUS. -/

theorem statusWord_busy (S : Engine) : (statusWord S).getLsbD 0 = S.busy := by
  simp only [statusWord, BitVec.getLsbD_append, reduceIte, Nat.reduceLT, BitVec.getLsbD_ofBool, decide_true, Bool.true_and]

theorem statusWord_done (S : Engine) : (statusWord S).getLsbD 1 = S.done := by
  simp only [statusWord, BitVec.getLsbD_append, reduceIte, Nat.reduceLT, Nat.reduceSub, BitVec.getLsbD_ofBool,
    decide_true, Bool.true_and]

theorem statusWord_valid (S : Engine) : (statusWord S).getLsbD 2 = S.valid := by
  simp only [statusWord, BitVec.getLsbD_append, reduceIte, Nat.reduceLT, Nat.reduceSub, BitVec.getLsbD_ofBool,
    decide_true, Bool.true_and]

theorem statusWord_lineDir (S : Engine) : (statusWord S).getLsbD 24 = decide (S.lineDir = .output) := by
  simp only [statusWord, BitVec.getLsbD_append, reduceIte, Nat.reduceLT, Nat.reduceSub, Direction.bit_getLsbD]

theorem statusWord_lineOut (S : Engine) : (statusWord S).getLsbD 25 = decide (S.lineOut = .high) := by
  simp only [statusWord, BitVec.getLsbD_append, reduceIte, Nat.reduceLT, Nat.reduceSub, Level.bit_getLsbD]

theorem statusWord_err (S : Engine) : (statusWord S).extractLsb' 4 3 = errCode S.err := by
  simp (disch := decide) only [statusWord, BitVec.extractLsb'_append_eq_of_add_le, BitVec.extractLsb'_append_eq_of_le,
    Nat.reduceSub, BitVec.extractLsb'_eq_self]

theorem statusWord_phase (S : Engine) : (statusWord S).extractLsb' 8 4 = S.phase.code := by
  simp (disch := decide) only [statusWord, BitVec.extractLsb'_append_eq_of_add_le, BitVec.extractLsb'_append_eq_of_le,
    Nat.reduceSub, BitVec.extractLsb'_eq_self]

theorem statusWord_bitn (S : Engine) : (statusWord S).extractLsb' 16 6 = S.bitn := by
  simp (disch := decide) only [statusWord, BitVec.extractLsb'_append_eq_of_add_le, BitVec.extractLsb'_append_eq_of_le,
    Nat.reduceSub, BitVec.extractLsb'_eq_self]

/-- Settles O10, field by field. -/
theorem rdStatusReturnsTheFields : Obligations.RdStatusReturnsTheFields := by
  intro s
  let S := s.engine
  refine ⟨statusWord S, rfl, statusWord_busy S, statusWord_done S, statusWord_valid S, statusWord_err S, statusWord_phase S,
    statusWord_bitn S, statusWord_lineDir S, statusWord_lineOut S, ?_, ?_, ?_, ?_, ?_⟩
  case refine_1 | refine_2 =>
    simp only [statusWord, BitVec.getLsbD_append, reduceIte, Nat.reduceLT, Nat.reduceSub]
    rfl
  all_goals
    simp (disch := decide) only [statusWord, BitVec.extractLsb'_append_eq_of_add_le, BitVec.extractLsb'_append_eq_of_le]
    rfl

/-! The result words as numbers. -/

theorem raw0Word_toNat (S : Engine) : (raw0Word S).toNat = S.raw.toNat / 256 := by
  have hlt := S.raw.isLt
  rw [raw0Word, BitVec.extractLsb'_toNat, Nat.shiftRight_eq_div_pow]
  omega

theorem raw1Word_toNat (S : Engine) : (raw1Word S).toNat = S.raw.toNat % 256 := by
  rw [raw1Word, BitVec.toNat_setWidth, BitVec.extractLsb'_toNat, Nat.shiftRight_zero]
  omega

theorem readingWord_toNat (S : Engine) : (readingWord S).toNat = S.humTenths.toNat * 65536 + S.tempTenths.toNat := by
  rw [readingWord, BitVec.toNat_append, ← Nat.shiftLeft_add_eq_or_of_lt S.tempTenths.isLt, Nat.shiftLeft_eq]

/-- Settles O11. -/
theorem resultReadsReturnTheResults : Obligations.ResultReadsReturnTheResults := fun s =>
  ⟨raw0Word s.engine, raw1Word s.engine, readingWord s.engine, rfl, raw0Word_toNat _, rfl, raw1Word_toNat _, rfl,
    readingWord_toNat _⟩

/-- Settles O14: no word of the window is made of `shreg`, `tmr` or `iter`. -/
theorem partialFrameAndCountersAreUnreadable : Obligations.PartialFrameAndCountersAreUnreadable := by
  simp only [Obligations.PartialFrameAndCountersAreUnreadable, List.forall_mem_cons]
  exact ⟨fun _ _ _ _ => ⟨ctrlWord, rfl, rfl⟩, fun s _ _ _ => ⟨statusWord s.engine, rfl, rfl⟩,
    fun s _ _ _ => ⟨raw0Word s.engine, rfl, rfl⟩, fun s _ _ _ => ⟨raw1Word s.engine, rfl, rfl⟩,
    fun s _ _ _ => ⟨readingWord s.engine, rfl, rfl⟩, fun _ _ _ _ => ⟨reservedWord, rfl, rfl⟩,
    fun _ _ _ _ => ⟨reservedWord, rfl, rfl⟩, fun _ _ _ _ => ⟨reservedWord, rfl, rfl⟩, nofun⟩

/-- Settles O35: the reset state is closed, and its words compute. -/
theorem resetValues : Obligations.ResetValues :=
  ⟨⟨rfl, rfl, rfl, rfl, rfl, rfl, rfl, rfl, rfl, rfl, rfl, rfl⟩, rfl, rfl, rfl, rfl, rfl⟩

end Sys2Proof.Machine
end

section
/-! PROOFS. What the invariant says in each phase, of the outcome (10_state.md R27 to R29) and of the line (R43), and when a step samples
(R40). -/

namespace Sys2Proof.Machine

section
variable {c : Config} {S : Engine}

/-- A busy engine has no outcome (10_state.md R27, R28). -/
theorem Engine.Inv.noOutcome (h : S.Inv c) (hb : S.phase ≠ .idle) : S.NoOutcome := by
  cases hp : S.phase <;> simp only [Inv, hp] at h
  case idle => exact absurd hp hb
  all_goals exact h.1

theorem Engine.valid_iff (S : Engine) : S.valid = true ↔ S.done = true ∧ S.err = none := by simp [valid]

/-- An engine with no valid outcome, busy or idle, has no result (10_state.md R28, R29). -/
theorem Engine.Inv.noResult (h : S.Inv c) (hv : ¬ S.valid = true) : S.NoResult := by
  by_cases hp : S.phase = .idle
  · obtain ⟨-, -, -, -, -, hres, -⟩ := (inv_idle hp).mp h
    rw [valid_iff, not_and_or, Bool.not_eq_true] at hv
    exact hres hv
  · obtain ⟨-, -, hres⟩ := h.noOutcome hp
    exact hres

/-- In every phase but IDLE, START_LOW and START_HIGH the line is an input (10_state.md R43). -/
theorem Engine.Inv.lineInput (h : S.Inv c) (hidle : S.phase ≠ .idle) (hlow : S.phase ≠ .startLow)
    (hhigh : S.phase ≠ .startHigh) : S.LineInput := by
  cases hp : S.phase <;> simp only [Inv, hp] at h
  case idle => exact absurd hp hidle
  case startLow => exact absurd hp hlow
  case startHigh => exact absurd hp hhigh
  all_goals exact h.2.1

/-- The line is driven or was last driven high, but in START_LOW (10_state.md R43). -/
theorem Engine.Inv.lineOut (h : S.Inv c) (hlow : S.phase ≠ .startLow) : S.lineOut = .high := by
  by_cases hidle : S.phase = .idle
  · exact ((inv_idle hidle).mp h).1.2
  by_cases hhigh : S.phase = .startHigh
  · exact ((inv_startHigh hhigh).mp h).2.1.2
  exact (h.lineInput hidle hlow hhigh).2

/-- An engine step samples only with `tmr = 0`, in BIT_SAMPLE_DELAY or in a polling phase with samples left (10_state.md R40). -/
theorem Engine.samples_due (h : S.samples c = true) :
    S.tmr = 0 ∧
    ((S.phase = .awaitResponse ∧ S.iter ≠ c.nResponse) ∨ (S.phase = .awaitAck ∧ S.iter ≠ c.nAck) ∨
     (S.phase = .awaitDataStart ∧ S.iter ≠ c.nDataStart) ∨ (S.phase = .bitWaitHigh ∧ S.iter ≠ c.nBitHigh) ∨
     S.phase = .bitSampleDelay ∨ (S.phase = .bitWaitLow ∧ S.iter ≠ c.nBitLow)) := by
  cases hp : S.phase <;> simp only [samples, hp] at h
  case idle | startLow | startHigh | finalize => cases h
  case bitSampleDelay => exact ⟨of_decide_eq_true h, by simp⟩
  all_goals
    obtain ⟨ht, hi⟩ := of_decide_eq_true h
    exact ⟨ht, by simp [hi]⟩

end

/-- Settles O48, bit by bit. -/
theorem statusBitsAreConsistent : Obligations.StatusBitsAreConsistent := by
  rintro s ⟨-, hi⟩
  simp only [statusWord_busy, statusWord_done, statusWord_valid, statusWord_err]
  refine ⟨fun ⟨hb, hd⟩ => ?_, fun hv => ?_, fun hv => ?_⟩
  · obtain ⟨hno, -⟩ := hi.noOutcome (of_decide_eq_true hb)
    cases hd.symm.trans hno
  · obtain ⟨hd, he⟩ := s.engine.valid_iff.mp hv
    exact ⟨hd, by rw [he]; rfl⟩
  · obtain ⟨hraw, hhum, htemp⟩ := hi.noResult (by rw [hv]; exact Bool.false_ne_true)
    rw [raw0Word, raw1Word, readingWord, hraw, hhum, htemp]
    exact ⟨rfl, rfl, rfl⟩

/-- Settles O46: of the five things a step can do (`step_cases`) only the engine's step takes a tick and can sample. -/
theorem samplesOnlyWhenDue : Obligations.SamplesOnlyWhenDue := by
  intro s t l h htick hl
  obtain ⟨-, h⟩ := step_cases h
  obtain ⟨-, ops, rfl | rfl⟩ | ⟨b, rest, -, rfl⟩ | ⟨-, ops, w, rfl⟩ | ⟨-, op, rest, -, -, rfl⟩ | ⟨-, -, ops, rfl⟩ := h
  · cases hl
  · exact absurd htick (Nat.ne_add_one s.tick)
  · exact absurd htick (Nat.ne_add_one s.tick)
  · exact absurd htick (Nat.ne_add_one s.tick)
  · exact absurd htick (Nat.ne_add_one s.tick)
  · rw [State.afterTick_sampled] at hl
    split at hl
    next hs =>
      injection hl with hl
      exact ⟨hl.symm, Engine.samples_due hs⟩
    next => cases hl

/-- Settles O42, from what the invariant says of the line in each phase. -/
theorem lineStateByPhaseWhenReached : Obligations.LineStateByPhaseWhenReached := by
  intro s t n hc hr hrun
  have hi := (State.inv_of_reached hc hr hrun).engine
  refine ⟨fun hp => ((Engine.inv_idle hp).mp hi).1, fun hp => ((Engine.inv_startLow hp).mp hi).2.1,
    fun hp => ((Engine.inv_startHigh hp).mp hi).2.1, hi.lineInput, fun _ ho => ?_, fun u l hu htick hl => ?_⟩
  · by_contra hlow
    cases ho.symm.trans (hi.lineOut hlow)
  · obtain ⟨-, -, hdue⟩ := samplesOnlyWhenDue t u l hu htick hl
    refine (hi.lineInput ?_ ?_ ?_).1 <;> intro hp <;> simp [hp] at hdue

end Sys2Proof.Machine
end

section
/-! PROOFS. One tick of the phases that only wait before their action: START_LOW, START_HIGH and BIT_SAMPLE_DELAY
(10_state.md R23). -/

namespace Sys2Proof.Machine

/-- Settles O18, by the two cases of the wait. -/
theorem startLowStep : Obligations.StartLowStep := by
  intro s he
  constructor <;> intro ht
  · rw [exec, execStartLow, engineTick_of_encodable he, Engine.startLow, Engine.timed_of_wait ht]
    rfl
  · rw [exec, execStartLow, engineTick_of_encodable he, Engine.startLow, Engine.timed_of_zero ht]
    rfl

/-- Settles O19, by the two cases of the wait. -/
theorem startHighStep : Obligations.StartHighStep := by
  intro s he
  constructor <;> intro ht
  · rw [exec, execStartHigh, engineTick_of_encodable he, Engine.startHigh, Engine.timed_of_wait ht]
    rfl
  · rw [exec, execStartHigh, engineTick_of_encodable he, Engine.startHigh, Engine.timed_of_zero ht]
    rfl

/-- The frame assembler as a number: twice the frame and the level's bit, the bit shifted out of bit 39 dropped
(43_bit_readout.md R163). -/
theorem shiftIn_toNat (f : Frame) (l : Level) :
    (shiftIn f l).toNat = (2 * f.toNat + (if l = .high then 1 else 0)) % 2 ^ 40 := by
  have hbit : (l.bit.setWidth 40).toNat = if l = .high then 1 else 0 := by cases l <;> rfl
  have hlt : (if l = .high then 1 else 0) < 2 ^ 1 := by split <;> decide
  have hshift : (f <<< 1).toNat = (f.toNat % 2 ^ 39) <<< 1 := by
    rw [BitVec.toNat_shiftLeft, Nat.shiftLeft_eq, Nat.shiftLeft_eq]
    omega
  rw [shiftIn, BitVec.toNat_or, hbit, hshift, ← Nat.shiftLeft_add_eq_or_of_lt hlt, Nat.shiftLeft_eq]
  omega

/-- Settles O24, by the two cases of the wait. -/
theorem bitSampleDelayStep : Obligations.BitSampleDelayStep := by
  intro s he
  constructor <;> intro ht
  · rw [exec, execBitSampleDelay, engineTick_of_encodable he, Engine.bitSampleDelay, Engine.timed_of_wait ht,
      if_neg (by simpa using ht)]
    rfl
  · refine ⟨shiftIn s.engine.shreg s.sensed, shiftIn_toNat _ _, ?_⟩
    rw [exec, execBitSampleDelay, engineTick_of_encodable he, Engine.bitSampleDelay, Engine.timed_of_zero ht,
      if_pos (by simpa using ht)]
    rfl

end Sys2Proof.Machine
end

section
/-! PROOFS. Which operation a step runs, from the head of the host's list (20_memory.md R68, 30_encoding.md R97), and that a step
stops only at an access to no word slot (20_memory.md R63). -/

namespace Sys2Proof.Machine

/-- Every word slot has its two rows in the register table (20_memory.md R62, 30_encoding.md R91). -/
theorem decode_reg_of_slot {sel : BitVec 9} (h : SlotSelect sel) (v : Word) : ∃ i, decode (.reg sel v) = .ok i := by
  obtain ⟨hmod, hle⟩ := h
  rw [BitVec.extractLsb'_toNat, Nat.shiftRight_zero] at hmod hle
  have hsel : sel = BitVec.ofNat 9 (256 * (sel.toNat / 256) + 4 * (sel.toNat % 256 / 4)) := by
    rw [← BitVec.toNat_inj, BitVec.toNat_ofNat]
    omega
  have hwe : sel.toNat / 256 < 2 := by omega
  have hslot : sel.toNat % 256 / 4 < 8 := by omega
  rw [hsel]
  generalize sel.toNat / 256 = we at hwe
  generalize sel.toNat % 256 / 4 = slot at hslot
  interval_cases we <;> interval_cases slot <;> exact ⟨_, rfl⟩

theorem not_slotSelect_of_decode_error {sel : BitVec 9} {v : Word} {e : DecodeError} (h : decode (.reg sel v) = .error e) :
    ¬ SlotSelect sel := by
  intro hslot
  obtain ⟨i, hi⟩ := decode_reg_of_slot hslot v
  cases hi.symm.trans h

/-- Every phase code is that of an operation (10_state.md R21). -/
theorem decode_phase_code (p : Phase) : ∃ i, decode (.phase p.code) = .ok i := by
  cases p <;> exact ⟨_, rfl⟩

/-! A step, by what it fetches. -/

theorem step_of_run {s t : State} {i : Instr} (h : fetch s = .run i t) : step s = exec i t := by rw [step, h]

theorem step_of_surroundings {s t : State} (h : fetch s = .surroundings t) : step s = .next t := by rw [step, h]

theorem step_of_refuse {s : State} {r : Refusal} (h : fetch s = .refuse r) : step s = .refused r := by rw [step, h]

theorem fetch_of_released {s : State} (hc : s.config.Legal) (hr : s.rst = false) : fetch s = fetchReleased s := by
  rw [fetch, if_pos hc, hr, if_neg Bool.false_ne_true]

theorem fetch_of_held {s : State} (hc : s.config.Legal) (hr : s.rst = true) : fetch s = fetchHeld s := by
  rw [fetch, if_pos hc, if_pos hr]

theorem fetchEngine_of_decode {s : State} {i : Instr} (h : decode (.phase s.engine.phase.code) = .ok i) :
    fetchEngine s = .run i s := by
  rw [fetchEngine, h]

/-- A step that fetches the engine's step of `u` is one tick of `EngineStep` from `u`. -/
theorem step_of_fetchEngine {s u : State} (h : fetch s = fetchEngine u) :
    step s = engineTick (u.engine.samples u.config) (u.engine.step u.config u.sensed) u := by
  obtain ⟨i, hf, -, he⟩ := fetchEngine_exec u
  rw [step_of_run (h.trans hf), he]

/-! `fetchReleased`, by the head of the host's list. -/

section
variable {s : State} {rest : List HostOp}

theorem fetchReleased_nil (h : s.host = []) : fetchReleased s = fetchEngine s := by simp only [fetchReleased, h]

theorem fetchReleased_command {w : Word} (h : s.host = .command w :: rest) :
    fetchReleased s = .run (decodeCommand w) (s.withHost rest) := by simp only [fetchReleased, h]

theorem fetchReleased_access {sel : BitVec 9} {v : Word} {i : Instr} (h : s.host = .access sel v :: rest)
    (hd : decode (.reg sel v) = .ok i) : fetchReleased s = .run i (s.withHost rest) := by simp only [fetchReleased, h, hd]

theorem fetchReleased_access_error {sel : BitVec 9} {v : Word} {e : DecodeError} (h : s.host = .access sel v :: rest)
    (hd : decode (.reg sel v) = .error e) : fetchReleased s = .refuse (.unsupportedAccess sel) := by
  simp only [fetchReleased, h, hd]

theorem fetchReleased_wait_zero (h : s.host = .wait 0 :: rest) : fetchReleased s = .surroundings (s.withHost rest) := by
  simp only [fetchReleased, h]

theorem fetchReleased_wait_succ {n : Nat} (h : s.host = .wait (n + 1) :: rest) :
    fetchReleased s = fetchEngine (s.withHost (waitLeft n rest)) := by simp only [fetchReleased, h]

theorem fetchReleased_waitDone (h : s.host = .waitDone :: rest) :
    fetchReleased s = .run .rdStatus (s.withHost (waitDoneLeft (statusWord s.engine) rest)) := by
  simp only [fetchReleased, h]

theorem fetchReleased_rst {b : Bool} (h : s.host = .rst b :: rest) :
    fetchReleased s = .surroundings ((s.withHost rest).setRst b) := by simp only [fetchReleased, h]

/-- The port's level changes at a boundary, whatever it was (70_reset_and_hazards.md R240). -/
theorem step_of_rst {b : Bool} (hc : s.config.Legal) (h : s.host = .rst b :: rest) :
    step s = .next ((s.withHost rest).setRst b) := by
  cases hr : s.rst
  · exact step_of_surroundings ((fetch_of_released hc hr).trans (fetchReleased_rst h))
  · exact step_of_surroundings ((fetch_of_held hc hr).trans (by simp only [fetchHeld, h]))

end

/-- Settles O33, from the head of the host's list. -/
theorem stepRunsTheDecodedOperation : Obligations.StepRunsTheDecodedOperation := by
  intro s hc hr
  have hrun {i u} (h : fetchReleased s = .run i u) : step s = exec i u := step_of_run ((fetch_of_released hc hr).trans h)
  refine ⟨fun w rest hh i hi => ?_, fun sel v rest hh i hi => ?_, fun hh i hi => ?_, fun n rest hh i hi => ?_, decode_phase_code _⟩
  · obtain rfl : decodeCommand w = i := by injection hi
    exact hrun (fetchReleased_command hh)
  · exact hrun (fetchReleased_access hh hi)
  · exact hrun ((fetchReleased_nil hh).trans (fetchEngine_of_decode hi))
  · exact hrun ((fetchReleased_wait_succ hh).trans (fetchEngine_of_decode hi))

/-- Settles O36: every next operation but a refused access is one of three that leave the elements at their reset values
(`fetchHeld_cases`), and an access to a word slot is not refused. -/
theorem resetOverridesEverything : Obligations.ResetOverridesEverything := by
  refine ⟨fun s hc => ⟨fun rest hh => step_of_rst hc hh, fun hr hslot => ?_⟩, by decide, by decide, by decide⟩
  have hstep {t} (h : fetchHeld s = .surroundings t) : step s = .next t := step_of_surroundings ((fetch_of_held hc hr).trans h)
  obtain ⟨ops, he⟩ | ⟨ops, he⟩ | ⟨b, rest, -, he⟩ | ⟨sel, v, rest, e, hh, hd, -⟩ := fetchHeld_cases s
  · exact ⟨_, hstep he, rfl, rfl, rfl⟩
  · exact ⟨_, hstep he, rfl, rfl, rfl⟩
  · exact ⟨_, hstep he, by simp [hr], rfl, rfl⟩
  · exact absurd (hslot sel v rest hh) (not_slotSelect_of_decode_error hd)

/-- Settles O40, by the head of the host's list: the invariant rules out the codes of 30_encoding.md R96, the only fault of an engine
step, so that only an access can be refused. -/
theorem invariantStatesAlwaysStep : Obligations.InvariantStatesAlwaysStep := by
  rintro s ⟨hc, hi⟩
  cases hr : s.rst
  case true =>
    have hfetch := fetch_of_held hc hr
    obtain ⟨ops, he⟩ | ⟨ops, he⟩ | ⟨b, rest, -, he⟩ | ⟨sel, v, rest, e, hh, hd, he⟩ := fetchHeld_cases s
    · exact .inl ⟨_, step_of_surroundings (hfetch.trans he)⟩
    · exact .inl ⟨_, step_of_surroundings (hfetch.trans he)⟩
    · exact .inl ⟨_, step_of_surroundings (hfetch.trans he)⟩
    · exact .inr ⟨sel, v, rest, hh, not_slotSelect_of_decode_error hd, step_of_refuse (hfetch.trans he)⟩
  have hfetch := fetch_of_released hc hr
  have htick {ops} (h : fetchReleased s = fetchEngine (s.withHost ops)) : ∃ t, step s = .next t :=
    ⟨_, (step_of_fetchEngine (hfetch.trans h)).trans (engineTick_of_encodable (s := s.withHost ops) hi.encodable _ _)⟩
  match hh : s.host with
  | [] => exact .inl (htick (ops := s.host) (fetchReleased_nil hh))
  | .command w :: rest =>
    exact .inl ⟨_, (step_of_run (hfetch.trans (fetchReleased_command hh))).trans (exec_decodeCommand w _)⟩
  | .access sel v :: rest =>
    cases hd : decode (.reg sel v) with
    | ok i =>
      have hstep := step_of_run (hfetch.trans (fetchReleased_access hh hd))
      obtain ⟨w, he⟩ | ⟨-, he⟩ := exec_decode_reg hd (s.withHost rest)
      · exact .inl ⟨_, hstep.trans he⟩
      · exact .inl ⟨_, hstep.trans he⟩
    | error e =>
      have hstep := step_of_refuse (hfetch.trans (fetchReleased_access_error hh hd))
      exact .inr ⟨sel, v, rest, rfl, not_slotSelect_of_decode_error hd, hstep⟩
  | .wait 0 :: rest => exact .inl ⟨_, step_of_surroundings (hfetch.trans (fetchReleased_wait_zero hh))⟩
  | .wait (n + 1) :: rest => exact .inl (htick (fetchReleased_wait_succ hh))
  | .waitDone :: rest => exact .inl ⟨_, step_of_run (hfetch.trans (fetchReleased_waitDone hh))⟩
  | .rst b :: rest => exact .inl ⟨_, step_of_rst hc hh⟩

end Sys2Proof.Machine
end

section
/-! PROOFS. The phase changes only along the edges of 10_state.md R41, or by reset (70_reset_and_hazards.md R240). -/

namespace Sys2Proof.Machine

section
variable {c : Config} {S : Engine} {l : Level}

/-- A wait leaves its phase only on the step with `tmr = 0`. -/
theorem Engine.timed_leaves {a : Engine} (h : (S.timed a).phase ≠ S.phase) : S.tmr = 0 ∧ S.timed a = a := by
  obtain ⟨-, he⟩ | hz := timed_cases S a
  · exact absurd (by rw [he]) h
  · exact hz

/-- A polling step leaves its phase only with `tmr = 0`: by the failure after the last sample, or on seeing the target. -/
theorem Engine.poll_leaves {target : Level} {n : BitVec 8} {e : ErrorKind} {next : Engine → Engine}
    (h : (S.poll c target n e next l).phase ≠ S.phase) :
    S.tmr = 0 ∧ ((S.iter = n ∧ S.poll c target n e next l = S.abort e) ∨
      (S.iter ≠ n ∧ l = target ∧ S.poll c target n e next l = next { S with tmr := 0, iter := 0 })) := by
  obtain ⟨-, he⟩ | ⟨ht, hn⟩ | ⟨ht, hn⟩ | ⟨-, -, -, he⟩ := poll_cases c target n e next l S
  · exact absurd (by rw [he]) h
  · exact ⟨ht, .inl hn⟩
  · exact ⟨ht, .inr hn⟩
  · exact absurd (by rw [he]) h

/-- FINALIZE always ends its transaction, in a success or a ChecksumMismatch (44_finalize_decode.md R181). -/
theorem Engine.finalize_ends (S : Engine) :
    S.finalize.phase = .idle ∧ S.finalize.done = true ∧ (S.finalize.err = none ∨ S.finalize.err = some .checksumMismatch) := by
  cases hm : checksumMatches S.shreg
  · rw [finalize_of_mismatch hm]
    exact ⟨rfl, rfl, .inr rfl⟩
  · rw [finalize_of_match hm]
    exact ⟨rfl, rfl, .inl rfl⟩

/-- The fifteen edges of 10_state.md R41 that are engine steps, under their conditions. FINALIZE alone does not test `tmr`, which is 0
there. -/
theorem Engine.step_leaves (hfin : S.phase = .finalize → S.tmr = 0) (h : (S.step c l).phase ≠ S.phase) :
    let T := S.step c l
    S.tmr = 0 ∧
      ((S.phase = .startLow ∧ T.phase = .startHigh) ∨
       (S.phase = .startHigh ∧ T.phase = .awaitResponse) ∨
       (S.phase = .awaitResponse ∧ S.iter = c.nResponse ∧ T.phase = .idle ∧ T.err = some .noResponse) ∨
       (S.phase = .awaitResponse ∧ S.iter ≠ c.nResponse ∧ l = .low ∧ T.phase = .awaitAck) ∨
       (S.phase = .awaitAck ∧ S.iter = c.nAck ∧ T.phase = .idle ∧ T.err = some .noAck) ∨
       (S.phase = .awaitAck ∧ S.iter ≠ c.nAck ∧ l = .high ∧ T.phase = .awaitDataStart) ∨
       (S.phase = .awaitDataStart ∧ S.iter = c.nDataStart ∧ T.phase = .idle ∧ T.err = some .noDataStart) ∨
       (S.phase = .awaitDataStart ∧ S.iter ≠ c.nDataStart ∧ l = .low ∧ T.phase = .bitWaitHigh) ∨
       (S.phase = .bitWaitHigh ∧ S.iter = c.nBitHigh ∧ T.phase = .idle ∧ T.err = some .bitTimeout) ∨
       (S.phase = .bitWaitHigh ∧ S.iter ≠ c.nBitHigh ∧ l = .high ∧ T.phase = .bitSampleDelay) ∨
       (S.phase = .bitSampleDelay ∧ T.phase = .bitWaitLow) ∨
       (S.phase = .bitWaitLow ∧ S.iter = c.nBitLow ∧ T.phase = .idle ∧ T.err = some .bitTimeout) ∨
       (S.phase = .bitWaitLow ∧ S.iter ≠ c.nBitLow ∧ l = .low ∧ S.bitn ≠ 40 ∧ T.phase = .bitWaitHigh) ∨
       (S.phase = .bitWaitLow ∧ S.iter ≠ c.nBitLow ∧ l = .low ∧ S.bitn = 40 ∧ T.phase = .finalize) ∨
       (S.phase = .finalize ∧ T.phase = .idle ∧ (T.err = none ∨ T.err = some .checksumMismatch))) := by
  rw [step] at h ⊢
  cases hp : S.phase <;> simp only [hp, reduceCtorEq, false_and, true_and, false_or, or_false] at h ⊢ <;> rw [← hp] at h
  case idle => exact absurd rfl h
  case startLow | startHigh | bitSampleDelay =>
    obtain ⟨ht, he⟩ := timed_leaves h
    exact ⟨ht, congrArg Engine.phase he⟩
  case finalize =>
    obtain ⟨hend, -, herr⟩ := S.finalize_ends
    exact ⟨hfin hp, hend, herr⟩
  case bitWaitLow =>
    rw [bitWaitLow] at h ⊢
    obtain ⟨ht, ⟨hi, he⟩ | ⟨hi, hl, he⟩⟩ := poll_leaves h <;> rw [he] <;> refine ⟨ht, ?_⟩
    · exact .inl ⟨hi, rfl, rfl⟩
    · by_cases hb : S.bitn = 40
      · exact .inr (.inr ⟨hi, hl, hb, if_pos hb⟩)
      · exact .inr (.inl ⟨hi, hl, hb, if_neg hb⟩)
  all_goals
    obtain ⟨ht, ⟨hi, he⟩ | ⟨hi, hl, he⟩⟩ := poll_leaves h
    · exact ⟨ht, .inl ⟨hi, congrArg Engine.phase he, congrArg Engine.err he⟩⟩
    · exact ⟨ht, .inr ⟨hi, hl, congrArg Engine.phase he⟩⟩

end

/-- Settles O43, by the five things a step can do (`step_cases`): the port `rst` gives the reset values, START an edge of the host's, and
the engine's step the other fifteen. -/
theorem phaseChangesOnlyAlongTheEdges : Obligations.PhaseChangesOnlyAlongTheEdges := by
  rintro s t ⟨-, hi⟩ h hne
  have hfin (hp : s.engine.phase = .finalize) : s.engine.tmr = 0 := ((Engine.inv_finalize hp).mp hi).2.2.2.1
  obtain ⟨-, h⟩ := step_cases h
  obtain ⟨hr, ops, rfl | rfl⟩ | ⟨b, rest, hh, rfl⟩ | ⟨-, ops, w, rfl⟩ | ⟨-, op, rest, hh, hs, rfl⟩ | ⟨-, -, ops, rfl⟩ := h
  · exact .inl ⟨rfl, .inl hr⟩
  · exact .inl ⟨rfl, .inl hr⟩
  · by_cases hb : (b || s.rst) = true
    · refine .inl ⟨if_pos hb, ?_⟩
      obtain rfl | hr := Bool.or_eq_true_iff.mp hb
      · exact .inr (by rw [hh]; rfl)
      · exact .inl hr
    · have he : ((s.withHost rest).setRst b).engine = s.engine := if_neg hb
      exact absurd (congrArg Engine.phase he) hne
  · exact absurd rfl hne
  · by_cases hp : s.engine.phase = .idle
    · have he := Engine.acceptStart_of_idle s.config hp
      exact .inr (.inl ⟨hp, congrArg Engine.phase he, op, by rw [hh]; rfl, hs⟩)
    · have he := Engine.acceptStart_of_busy s.config hp
      exact absurd (congrArg Engine.phase he) hne
  · exact .inr (.inr (Engine.step_leaves hfin hne))

end Sys2Proof.Machine
end

section
/-! PROOFS. A step that does not sample does not depend on the sensed level (10_state.md R40): two machines that differ in nothing but
the sensor fetch the same operation, and it does the same to them. -/

namespace Sys2Proof.Machine

/-- The same machine with another sensor. -/
def State.withSensor (s : State) (sc : SensorScript) : State := { s with sensor := sc }

/-- `s` and `u` have the same elements, host operations to come, `reg_rdata` and tick. -/
abbrev State.SameButSensor (s u : State) : Prop :=
  u.engine = s.engine ∧ u.host = s.host ∧ u.rdata = s.rdata ∧ u.tick = s.tick

/-! The engine's step. -/

theorem Engine.poll_of_not_samples {c : Config} {target : Level} {n : BitVec 8} {e : ErrorKind} {next : Engine → Engine}
    {S : Engine} (h : S.pollSamples n = false) (l l' : Level) : S.poll c target n e next l = S.poll c target n e next l' := by
  by_cases ht : S.tmr = 0
  · have hi : S.iter = n := by simpa [pollSamples, ht] using h
    rw [poll_timeout _ _ _ _ _ _ ht hi, poll_timeout _ _ _ _ _ _ ht hi]
  · rw [poll_sleep _ _ _ _ _ _ ht, poll_sleep _ _ _ _ _ _ ht]

theorem Engine.step_of_not_samples {c : Config} {S : Engine} (h : S.samples c = false) (l l' : Level) :
    S.step c l = S.step c l' := by
  cases hp : S.phase <;> simp only [samples, hp] at h <;> simp only [step, hp]
  case bitSampleDelay =>
    have ht : S.tmr ≠ 0 := of_decide_eq_false h
    rw [bitSampleDelay, timed_of_wait ht, bitSampleDelay, timed_of_wait ht]
  all_goals exact poll_of_not_samples h l l'

/-- A tick that samples nothing does the same under every sensor. -/
theorem engineTick_withSensor {s t : State} (sc : SensorScript)
    (h : engineTick (s.engine.samples s.config) (s.engine.step s.config s.sensed) s = .next t) (hs : t.sampled = none) :
    ∃ u, engineTick (s.engine.samples s.config) (s.engine.step s.config (s.withSensor sc).sensed) (s.withSensor sc) = .next u ∧
      t.SameButSensor u := by
  obtain ⟨he, rfl⟩ := engineTick_next h
  have hns : s.engine.samples s.config = false := by simpa using hs
  refine ⟨_, engineTick_of_encodable (s := s.withSensor sc) he _ _, ?_, rfl, rfl, rfl⟩
  exact Engine.step_of_not_samples hns _ _

/-! The host's operations. -/

/-- A write to CTRL is its data as a command word (30_encoding.md R97). -/
theorem exec_wrCtrl (v : Word) (s : State) : exec (.wrCtrl v) s = exec (decodeCommand v) s := by
  rw [exec_decodeCommand, exec, execWrCtrl]
  split <;> rfl

/-- An operation that neither reads nor moves the sensor. -/
def IgnoresSensor (i : Instr) : Prop :=
  ∀ (s : State) (sc : SensorScript), ∃ t, exec i s = .next t ∧ exec i (s.withSensor sc) = .next (t.withSensor sc)

theorem decodeCommand_ignoresSensor (w : Word) : IgnoresSensor (decodeCommand w) := by
  intro s sc
  refine ⟨_, exec_decodeCommand w s, (exec_decodeCommand w _).trans ?_⟩
  split <;> rfl

theorem ignoresSensor_of_decode_reg {sel : BitVec 9} {v : Word} {i : Instr} (h : decode (.reg sel v) = .ok i) :
    IgnoresSensor i := by
  simp only [decode, decodeRegister] at h
  split at h <;> cases h
  case h_1 =>
    intro s sc
    rw [exec_wrCtrl, exec_wrCtrl]
    exact decodeCommand_ignoresSensor v s sc
  all_goals exact fun _ _ => ⟨_, rfl, rfl⟩

/-! The next operation. -/

/-- The next operations of `s` and of the same machine under the sensor `sc`: one tick of the engine, the same host operation, the same
change outside them, or the same refusal. -/
inductive Fetched.SameButSensor (s : State) (sc : SensorScript) : Fetched → Fetched → Prop
  | tick (ops : List HostOp) :
    SameButSensor s sc (fetchEngine (s.withHost ops)) (fetchEngine ((s.withHost ops).withSensor sc))
  | run (i : Instr) (ops : List HostOp) (h : IgnoresSensor i) :
    SameButSensor s sc (.run i (s.withHost ops)) (.run i ((s.withHost ops).withSensor sc))
  | surroundings (t u : State) (h : t.SameButSensor u) : SameButSensor s sc (.surroundings t) (.surroundings u)
  | refuse (r : Refusal) : SameButSensor s sc (.refuse r) (.refuse r)

theorem fetchHeld_withSensor (s : State) (sc : SensorScript) :
    Fetched.SameButSensor s sc (fetchHeld s) (fetchHeld (s.withSensor sc)) := by
  simp only [fetchHeld, show (s.withSensor sc).host = s.host from rfl]
  split
  case h_3 sel v rest _ =>
    cases decode (.reg sel v) with
    | ok i => exact .surroundings _ _ ⟨rfl, rfl, rfl, rfl⟩
    | error e => exact .refuse _
  all_goals exact .surroundings _ _ ⟨rfl, rfl, rfl, rfl⟩

theorem fetchReleased_withSensor (s : State) (sc : SensorScript) :
    Fetched.SameButSensor s sc (fetchReleased s) (fetchReleased (s.withSensor sc)) := by
  simp only [fetchReleased, show (s.withSensor sc).host = s.host from rfl]
  split
  case h_1 => exact .tick s.host
  case h_2 w rest _ => exact .run _ _ (decodeCommand_ignoresSensor w)
  case h_3 sel v rest _ =>
    cases hd : decode (.reg sel v) with
    | ok i => exact .run _ _ (ignoresSensor_of_decode_reg hd)
    | error e => exact .refuse _
  case h_5 => exact .tick _
  case h_6 => exact .run _ _ fun _ _ => ⟨_, rfl, rfl⟩
  case h_4 | h_7 => exact .surroundings _ _ ⟨rfl, rfl, rfl, rfl⟩

theorem fetch_withSensor (s : State) (sc : SensorScript) :
    Fetched.SameButSensor s sc (fetch s) (fetch (s.withSensor sc)) := by
  by_cases hc : s.config.Legal
  · cases hr : s.rst
    · rw [fetch_of_released hc hr, fetch_of_released (s := s.withSensor sc) hc hr]
      exact fetchReleased_withSensor s sc
    · rw [fetch_of_held hc hr, fetch_of_held (s := s.withSensor sc) hc hr]
      exact fetchHeld_withSensor s sc
  · rw [fetch, if_neg hc, fetch, if_neg (show ¬ (s.withSensor sc).config.Legal from hc)]
    exact .refuse _

/-- Settles O47, by what the two machines do next. -/
theorem unsampledLevelsHaveNoEffect : Obligations.UnsampledLevelsHaveNoEffect := by
  intro s t sc h hs
  show ∃ u, step (s.withSensor sc) = .next u ∧ t.SameButSensor u
  have hsame := fetch_withSensor s sc
  generalize hf : fetch s = f, hg : fetch (s.withSensor sc) = g at hsame
  cases hsame with
  | tick ops =>
    rw [step_of_fetchEngine hf] at h
    rw [step_of_fetchEngine hg]
    obtain ⟨-, rfl⟩ := engineTick_next h
    exact engineTick_withSensor (s := s.withHost ops) sc h (hs.resolve_left (Nat.succ_ne_self s.tick))
  | run i ops hi =>
    obtain ⟨u, hu, hu'⟩ := hi (s.withHost ops) sc
    obtain rfl : u = t := by injection hu.symm.trans ((step_of_run hf).symm.trans h)
    exact ⟨_, (step_of_run hg).trans hu', rfl, rfl, rfl, rfl⟩
  | surroundings v u hvu =>
    obtain rfl : v = t := by injection (step_of_surroundings hf).symm.trans h
    exact ⟨u, step_of_surroundings hg, hvu⟩
  | refuse r => cases (step_of_refuse hf).symm.trans h

end Sys2Proof.Machine
end

section
/-! PROOFS. Every transaction ends within the longest failure of 70_reset_and_hazards.md R252: each step of a busy engine takes at least
one from a bound on the ticks it has left. -/

namespace Sys2Proof

/-- At most so many ticks are left of a transaction in a polling phase with `N = n` and the counters `tmr = tm` and `iter = it`, if at
most `after` are left once the target is seen: it is seen by the last sample, or by none (70_reset_and_hazards.md R252). -/
def Config.pollLeft (c : Config) (n : BitVec 8) (after tm it : Nat) : Nat :=
  tm + (n.toNat - it) * c.pPoll.toNat + 1 + (after - c.pPoll.toNat)

/-- At most so many ticks are left with `k` bits to come, on entering BIT_WAIT_HIGH, or FINALIZE with none. -/
def Config.bitsLeft (c : Config) : Nat → Nat
  | 0 => 1
  | k + 1 => c.pollLeft c.nBitHigh (c.tSample.toNat + c.pollLeft c.nBitLow (c.bitsLeft k) 0 0) 0 0

/-- The same on entering AWAIT_DATA_START. -/
def Config.dataStartLeft (c : Config) : Nat := c.pollLeft c.nDataStart (c.bitsLeft 40) 0 0

/-- The same on entering AWAIT_ACK. -/
def Config.ackLeft (c : Config) : Nat := c.pollLeft c.nAck c.dataStartLeft 0 0

/-- The same on entering AWAIT_RESPONSE. -/
def Config.responseLeft (c : Config) : Nat := c.pollLeft c.nResponse c.ackLeft 0 0

section
variable {c : Config} {n : BitVec 8}

/-- With another phase to come, the longest stay in a polling phase ends in its last sample. -/
theorem Config.pollLeft_zero {after : Nat} (hn : 1 ≤ n.toNat) (ha : c.pPoll.toNat ≤ after) :
    c.pollLeft n after 0 0 = c.longestStay n + after := by
  obtain ⟨m, hm⟩ := Nat.exists_eq_add_of_le' hn
  simp only [pollLeft, longestStay, hm, Nat.sub_zero, Nat.add_sub_cancel, Nat.succ_mul]
  omega

/-- A polling phase not yet begun may take longer than one polling interval. -/
theorem Config.pPoll_le_pollLeft (hn : 1 ≤ n.toNat) (after : Nat) : c.pPoll.toNat ≤ c.pollLeft n after 0 0 := by
  have := Nat.mul_le_mul_right c.pPoll.toNat hn
  simp only [pollLeft, Nat.sub_zero]
  omega

end

section
variable {c : Config} (hc : c.Legal)
include hc

theorem Config.pPoll_le_bitsLeft_succ (k : Nat) : c.pPoll.toNat ≤ c.bitsLeft (k + 1) := by
  obtain ⟨-, -, -, -, -, -, hhigh, -⟩ := hc
  exact pPoll_le_pollLeft hhigh _

/-- The bit loop's part of R252: the failure comes in the last pass, where its low is never seen. -/
theorem Config.bitsLeft_succ (k : Nat) : c.bitsLeft (k + 1) =
    k * c.longestPass + c.longestStay c.nBitHigh + c.tSample.toNat + c.nBitLow.toNat * c.pPoll.toNat + 1 := by
  have hle := pPoll_le_bitsLeft_succ hc
  obtain ⟨-, -, hp, -, -, -, hhigh, hlow, -⟩ := hc
  have hpass (after : Nat) : c.pPoll.toNat ≤ c.tSample.toNat + c.pollLeft c.nBitLow after 0 0 :=
    (pPoll_le_pollLeft hlow after).trans (Nat.le_add_left _ _)
  induction k with
  | zero =>
    rw [bitsLeft, pollLeft_zero hhigh (hpass _), bitsLeft, pollLeft, Nat.sub_zero]
    omega
  | succ k ih =>
    rw [bitsLeft, pollLeft_zero hhigh (hpass _), pollLeft_zero hlow (hle k), ih, Nat.succ_mul, longestPass]
    omega

/-- The bound for a whole transaction is R252's. -/
theorem Config.longestTransaction_eq : c.startPulse + c.responseLeft = c.longestTransaction := by
  have hbits := bitsLeft_succ hc 39
  have hbits_le := pPoll_le_bitsLeft_succ hc 39
  obtain ⟨-, -, -, hresponse, hack, hdata, -⟩ := hc
  have hack_le : c.pPoll.toNat ≤ c.ackLeft := pPoll_le_pollLeft hack _
  have hdata_le : c.pPoll.toNat ≤ c.dataStartLeft := pPoll_le_pollLeft hdata _
  rw [responseLeft, pollLeft_zero hresponse hack_le, ackLeft, pollLeft_zero hack hdata_le, dataStartLeft,
    pollLeft_zero hdata hbits_le, hbits, longestTransaction]
  omega

end

end Sys2Proof

namespace Sys2Proof.Machine

/-- At most so many ticks are left of the transaction, by the phase and its counters. -/
def Engine.ticksLeft (c : Config) (S : Engine) : Nat :=
  match S.phase with
  | .idle => 0
  | .startLow => S.tmr.toNat + 1 + (c.tStartHigh.toNat + c.responseLeft)
  | .startHigh => S.tmr.toNat + 1 + c.responseLeft
  | .awaitResponse => c.pollLeft c.nResponse c.ackLeft S.tmr.toNat S.iter.toNat
  | .awaitAck => c.pollLeft c.nAck c.dataStartLeft S.tmr.toNat S.iter.toNat
  | .awaitDataStart => c.pollLeft c.nDataStart (c.bitsLeft 40) S.tmr.toNat S.iter.toNat
  | .bitWaitHigh =>
    c.pollLeft c.nBitHigh (c.tSample.toNat + c.pollLeft c.nBitLow (c.bitsLeft (39 - S.bitn.toNat)) 0 0) S.tmr.toNat S.iter.toNat
  | .bitSampleDelay => S.tmr.toNat + 1 + c.pollLeft c.nBitLow (c.bitsLeft (39 - S.bitn.toNat)) 0 0
  | .bitWaitLow => c.pollLeft c.nBitLow (c.bitsLeft (40 - S.bitn.toNat)) S.tmr.toNat S.iter.toNat
  | .finalize => 1

variable {c : Config} {S : Engine}

/-- A step of a timed phase takes from the bound where the phase has it for every `tmr` (`stays`) and at most `after` ticks are left
after the action. -/
theorem Engine.timed_ticksLeft {a : Engine} {after : Nat}
    (stays : ∀ tm : BitVec 16, { S with tmr := tm }.ticksLeft c = tm.toNat + 1 + after) (act : a.ticksLeft c ≤ after) :
    (S.timed a).ticksLeft c < S.tmr.toNat + 1 + after := by
  obtain ⟨ht, he⟩ | ⟨-, he⟩ := timed_cases S a <;> rw [he]
  · rw [stays]
    bv_omega
  · omega

/-- A polling step takes from the bound where the phase has it for all counters (`stays`) and at most `after` ticks are left after the
hit. -/
theorem Engine.poll_ticksLeft {target : Level} {n : BitVec 8} {e : ErrorKind} {next : Engine → Engine} {l : Level} {after : Nat}
    (hp : 1 ≤ c.pPoll.toNat) (hk : S.PollCounters c n)
    (stays : ∀ tm it, { S with tmr := tm, iter := it }.ticksLeft c = c.pollLeft n after tm.toNat it.toNat)
    (hit : (next { S with tmr := 0, iter := 0 }).ticksLeft c ≤ after) :
    (S.poll c target n e next l).ticksLeft c < c.pollLeft n after S.tmr.toNat S.iter.toNat := by
  obtain ⟨hle, -, -⟩ := hk
  obtain ⟨ht, he⟩ | ⟨ht, hi, he⟩ | ⟨ht, hi, -, he⟩ | ⟨ht, hi, -, he⟩ := poll_cases c target n e next l S <;> rw [he]
  · rw [stays _ S.iter]
    simp only [Config.pollLeft]
    have : (S.tmr - 1).toNat < S.tmr.toNat := by bv_omega
    omega
  · exact Nat.lt_of_lt_of_le Nat.zero_lt_one (by simp only [Config.pollLeft]; omega)
  all_goals
    obtain ⟨m, hm⟩ : ∃ m, n.toNat - S.iter.toNat = m + 1 := ⟨n.toNat - S.iter.toNat - 1, by bv_omega⟩
  · simp only [Config.pollLeft, hm, Nat.succ_mul]
    omega
  · have hmiss : n.toNat - (S.iter + 1).toNat = m := by bv_omega
    have hload : (c.pPoll.setWidth 16 - 1).toNat < c.pPoll.toNat := by bv_omega
    rw [stays]
    simp only [Config.pollLeft, hm, hmiss, Nat.succ_mul]
    omega

/-- Every step of a busy engine takes from the bound, whatever the line shows. -/
theorem Engine.Inv.step_ticksLeft (hc : c.Legal) (h : S.Inv c) (hb : S.phase ≠ .idle) (l : Level) :
    (S.step c l).ticksLeft c < S.ticksLeft c := by
  obtain ⟨-, hstartHigh, hpoll, -, -, -, -, -, hsample, -⟩ := hc
  cases hp : S.phase <;> simp only [Engine.step, ticksLeft, hp]
  case idle => exact absurd hp hb
  case startLow =>
    refine timed_ticksLeft (fun _ => by simp only [ticksLeft, hp]) ?_
    have := toNat_sub_one_lt hstartHigh
    simp only [ticksLeft]
    omega
  case startHigh =>
    exact timed_ticksLeft (fun _ => by simp only [ticksLeft, hp]) le_rfl
  case awaitResponse =>
    obtain ⟨-, -, -, hk⟩ := (inv_awaitResponse hp).mp h
    exact poll_ticksLeft hpoll hk (fun _ _ => by simp only [ticksLeft, hp]) le_rfl
  case awaitAck =>
    obtain ⟨-, -, -, hk⟩ := (inv_awaitAck hp).mp h
    exact poll_ticksLeft hpoll hk (fun _ _ => by simp only [ticksLeft, hp]) le_rfl
  case awaitDataStart =>
    obtain ⟨-, -, -, hk⟩ := (inv_awaitDataStart hp).mp h
    exact poll_ticksLeft hpoll hk (fun _ _ => by simp only [ticksLeft, hp]) le_rfl
  case bitWaitHigh =>
    obtain ⟨-, -, -, -, hk⟩ := (inv_bitWaitHigh hp).mp h
    refine poll_ticksLeft hpoll hk (fun _ _ => by simp only [ticksLeft, hp]) ?_
    have := toNat_sub_one_lt hsample
    simp only [ticksLeft]
    omega
  case bitSampleDelay =>
    obtain ⟨-, -, hb40, -⟩ := (inv_bitSampleDelay hp).mp h
    have hadd : 40 - (S.bitn + 1).toNat = 39 - S.bitn.toNat := by bv_omega
    refine timed_ticksLeft (fun _ => by simp only [ticksLeft, hp]) ?_
    simp only [ticksLeft, hadd]
    exact le_rfl
  case bitWaitLow =>
    obtain ⟨-, -, -, hb40, -, hk⟩ := (inv_bitWaitLow hp).mp h
    refine poll_ticksLeft hpoll hk (fun _ _ => by simp only [ticksLeft, hp]) ?_
    by_cases hn : S.bitn = Config.nBits
    · simp only [ticksLeft, hn]
      exact le_rfl
    · have hlt : S.bitn.toNat < 40 := lt_of_le_of_ne hb40 fun he => hn (BitVec.eq_of_toNat_eq he)
      have hsub : 40 - S.bitn.toNat = 39 - S.bitn.toNat + 1 := by omega
      simp only [ticksLeft, hn, hsub, if_false]
      exact le_rfl
  case finalize =>
    simp only [(finalize_ends S).1, Nat.zero_lt_one]

/-- The bound after an accepted START is the longest failure (70_reset_and_hazards.md R252). -/
theorem Engine.acceptStart_ticksLeft (hc : c.Legal) (h : S.phase = .idle) :
    (S.acceptStart c).ticksLeft c = c.longestTransaction := by
  have hload : (c.tStartLow - 1).toNat + 1 = c.tStartLow.toNat := by
    have := hc.1
    bv_omega
  rw [acceptStart_of_idle c h, ← Config.longestTransaction_eq hc, Config.startPulse]
  simp only [ticksLeft, hload, Nat.add_assoc]

/-- The engine's runs keep the invariant of the elements. -/
theorem Engine.Inv.run (hc : c.Legal) (h : S.Inv c) (L : Nat → Level) (k n : Nat) : (Engine.run c L k S n).Inv c := by
  induction n with
  | zero => exact h
  | succ n ih => exact ih.step hc _

/-- While a run is busy its ticks count against the bound. -/
theorem Engine.Inv.run_ticksLeft (hc : c.Legal) (h : S.Inv c) (L : Nat → Level) (k n : Nat)
    (hb : ∀ m < n, (Engine.run c L k S m).phase ≠ .idle) : (Engine.run c L k S n).ticksLeft c + n ≤ S.ticksLeft c := by
  induction n with
  | zero => exact le_rfl
  | succ n ih =>
    have hn := ih fun m hm => hb m (hm.trans n.lt_succ_self)
    have hlt := (h.run hc L k n).step_ticksLeft hc (hb n n.lt_succ_self) (L (k + n))
    rw [Engine.run]
    omega

/-- A run gets to IDLE within the bound; the least such number of ticks. -/
theorem Engine.Inv.run_reaches_idle (hc : c.Legal) (h : S.Inv c) (L : Nat → Level) (k : Nat) :
    ∃ n ≤ S.ticksLeft c, (Engine.run c L k S n).phase = .idle ∧ ∀ m < n, (Engine.run c L k S m).phase ≠ .idle := by
  have hex : ∃ n, (Engine.run c L k S n).phase = .idle := by
    by_contra! hb
    have := h.run_ticksLeft hc L k (S.ticksLeft c + 1) fun m _ => hb m
    omega
  have hmin : ∀ m < Nat.find hex, (Engine.run c L k S m).phase ≠ .idle := fun m => Nat.find_min hex
  exact ⟨Nat.find hex, (Nat.le_add_left _ _).trans (h.run_ticksLeft hc L k _ hmin), Nat.find_spec hex, hmin⟩

/-- A busy engine gets to IDLE only by ending its transaction, with an outcome. -/
theorem Engine.step_to_idle_done {l : Level} (hb : S.phase ≠ .idle) (h : (S.step c l).phase = .idle) :
    (S.step c l).done = true := by
  have hne : (S.step c l).phase ≠ S.phase := fun he => hb (he.symm.trans h)
  rw [step] at h hne ⊢
  cases hp : S.phase <;> simp only [hp] at h hne ⊢ <;> rw [← hp] at hne
  case idle => exact absurd hp hb
  case startLow | startHigh | bitSampleDelay =>
    cases (congrArg Engine.phase (timed_leaves hne).2).symm.trans h
  case finalize => exact (finalize_ends S).2.1
  case bitWaitLow =>
    obtain ⟨-, ⟨-, he⟩ | ⟨-, -, he⟩⟩ := poll_leaves hne
    · exact congrArg Engine.done he
    · have hbusy := (congrArg Engine.phase he).symm.trans h
      split at hbusy <;> cases hbusy
  all_goals
    obtain ⟨-, ⟨-, he⟩ | ⟨-, -, he⟩⟩ := poll_leaves hne
    · exact congrArg Engine.done he
    · cases (congrArg Engine.phase he).symm.trans h

/-- Settles O56: the first tick from which the engine is idle is within the bound (`run_reaches_idle`), and the step into it ended the
transaction. -/
theorem everyTransactionEndsWithinTheBound : Obligations.EveryTransactionEndsWithinTheBound := by
  intro c L k S hc hp
  have hstart := Engine.inv_acceptStart hc hp
  obtain ⟨n, hle, hidle, hbusy⟩ := hstart.run_reaches_idle hc L k
  obtain ⟨hline, ⟨hbitn, hshreg⟩, htmr, hiter, -, hres, -⟩ := (Engine.inv_idle hidle).mp (hstart.run hc L k n)
  refine ⟨n, hle.trans (Engine.acceptStart_ticksLeft hc hp).le, ⟨hidle, htmr, hiter, hbitn, hshreg, hline⟩, ?_,
    fun he => hres (.inr he), fun m hm => ⟨hbusy m hm, ((hstart.run hc L k m).noOutcome (hbusy m hm)).1⟩⟩
  match n with
  | 0 =>
    rw [Engine.run, Engine.acceptStart_of_idle c hp] at hidle
    cases hidle
  | m + 1 => exact Engine.step_to_idle_done (hbusy m m.lt_succ_self) hidle

end Sys2Proof.Machine
end

section
/-! PROOFS. Which words the decoders of 30_encoding.md reject, and what a register access does at a boundary (20_memory.md R62, R63,
R68). -/

namespace Sys2Proof.Machine

/-! The rejected words, format by format. -/

/-- Every row of the register table is at a word slot (20_memory.md R62, 30_encoding.md R91). -/
theorem slotSelect_of_decode_reg {sel : BitVec 9} {v : Word} {i : Instr} (h : decode (.reg sel v) = .ok i) : SlotSelect sel := by
  simp only [decode, decodeRegister] at h
  split at h
  case h_17 => cases h
  all_goals decide

theorem decode_reg_error_iff (sel : BitVec 9) (v : Word) : (∃ e, decode (.reg sel v) = .error e) ↔ ¬ SlotSelect sel := by
  refine ⟨fun ⟨_, h⟩ => not_slotSelect_of_decode_error h, fun h => ?_⟩
  cases hd : decode (.reg sel v) with
  | ok i => exact absurd (slotSelect_of_decode_reg hd) h
  | error e => exact ⟨e, rfl⟩

theorem decode_phase_error_iff (code : BitVec 4) : (∃ e, decode (.phase code) = .error e) ↔ 10 ≤ code.toNat := by
  simp only [decode, decodePhase]
  split
  case h_11 =>
    simp only [imp_false] at *
    exact ⟨fun _ => by bv_omega, fun _ => ⟨_, rfl⟩⟩
  all_goals exact iff_of_false nofun (by decide)

theorem decode_line_error_iff (code : BitVec 2) : (∃ e, decode (.line code) = .error e) ↔ code = 0 := by
  simp only [decode, decodeLine]
  split
  case h_4 =>
    simp only [imp_false] at *
    exact ⟨fun _ => by bv_omega, fun _ => ⟨_, rfl⟩⟩
  all_goals exact iff_of_false nofun (by decide)

/-- Settles O2, format by format. -/
theorem rejectedWordsAreTheReservedOnes : Obligations.RejectedWordsAreTheReservedOnes :=
  ⟨decode_reg_error_iff, decode_phase_error_iff, decode_line_error_iff, fun w => ⟨decodeCommand w, rfl⟩⟩

/-! One step at an access, by whether its select decodes. -/

section
variable {s : State} {sel : BitVec 9} {v : Word} {rest : List HostOp}

theorem fetchHeld_access {i : Instr} (h : s.host = .access sel v :: rest) (hd : decode (.reg sel v) = .ok i) :
    fetchHeld s = .surroundings (s.withHost rest).heldAccess := by simp only [fetchHeld, h, hd]

theorem fetchHeld_access_error {e : DecodeError} (h : s.host = .access sel v :: rest) (hd : decode (.reg sel v) = .error e) :
    fetchHeld s = .refuse (.unsupportedAccess sel) := by simp only [fetchHeld, h, hd]

/-- Whatever an access does to the elements and to `reg_rdata`, it takes no tick and is done at its boundary (20_memory.md R68). -/
theorem step_of_access {i : Instr} (hc : s.config.Legal) (h : s.host = .access sel v :: rest)
    (hd : decode (.reg sel v) = .ok i) : ∃ t, step s = .next t ∧ t.tick = s.tick ∧ t.sensor = s.sensor ∧ t.host = rest := by
  cases hr : s.rst
  · have hstep := step_of_run ((fetch_of_released hc hr).trans (fetchReleased_access h hd))
    obtain ⟨w, he⟩ | ⟨-, he⟩ := exec_decode_reg hd (s.withHost rest)
    · exact ⟨_, hstep.trans he, rfl, rfl, rfl⟩
    · exact ⟨_, hstep.trans he, rfl, rfl, rfl⟩
  · exact ⟨_, step_of_surroundings ((fetch_of_held hc hr).trans (fetchHeld_access h hd)), rfl, rfl, rfl⟩

/-- An access at no word slot is refused whatever the level of `rst` (20_memory.md R63; log entry 9). -/
theorem step_of_access_error {e : DecodeError} (hc : s.config.Legal) (h : s.host = .access sel v :: rest)
    (hd : decode (.reg sel v) = .error e) : step s = .refused (.unsupportedAccess sel) := by
  cases hr : s.rst
  · exact step_of_refuse ((fetch_of_released hc hr).trans (fetchReleased_access_error h hd))
  · exact step_of_refuse ((fetch_of_held hc hr).trans (fetchHeld_access_error h hd))

end

/-- Settles O12: the selects that decode are the word slots. -/
theorem accessSucceedsExactlyAtWordSlots : Obligations.AccessSucceedsExactlyAtWordSlots := by
  intro s sel v rest hc hh
  refine ⟨fun hslot => ?_, fun hslot => ?_⟩
  · obtain ⟨i, hd⟩ := decode_reg_of_slot hslot v
    exact step_of_access hc hh hd
  · obtain ⟨e, hd⟩ := (decode_reg_error_iff sel v).mpr hslot
    exact step_of_access_error hc hh hd

end Sys2Proof.Machine
end

section
/-! PROOFS. Who can change the engine's elements (20_memory.md R69, R72): in IDLE only START or the port `rst`, in the other phases no
host operation of the table. -/

namespace Sys2Proof.Machine

/-- Hold (41_line_driver.md R130). -/
theorem Engine.step_of_idle {S : Engine} (c : Config) (l : Level) (h : S.phase = .idle) : S.step c l = S := by rw [step, h]

/-- The port `rst` changes the elements only by resetting them, when it is asserted or was (70_reset_and_hazards.md R240). -/
theorem State.setRst_resets {s : State} {b : Bool} (h : (s.setRst b).engine ≠ s.engine) :
    (s.setRst b).engine = Engine.reset ∧ (b = true ∨ s.rst = true) := by
  rw [setRst_engine] at h ⊢
  split at h
  next hb => exact ⟨if_pos hb, Bool.or_eq_true_iff.mp hb⟩
  next => exact absurd rfl h

/-- Settles O45, by the five things a step can do (`step_cases`): an access other than START leaves the elements alone, and so does the
step of IDLE. -/
theorem outcomeStandsUntilStartOrReset : Obligations.OutcomeStandsUntilStartOrReset := by
  intro s t hp h hne
  obtain ⟨-, h⟩ := step_cases h
  obtain ⟨hr, ops, rfl | rfl⟩ | ⟨b, rest, hh, rfl⟩ | ⟨-, ops, w, rfl⟩ | ⟨hr, op, rest, hh, hs, rfl⟩ | ⟨-, -, ops, rfl⟩ := h
  · exact .inl ⟨rfl, .inl hr⟩
  · exact .inl ⟨rfl, .inl hr⟩
  · obtain ⟨he, rfl | hr⟩ := State.setRst_resets hne
    · exact .inl ⟨he, .inr (by rw [hh]; rfl)⟩
    · exact .inl ⟨he, .inl hr⟩
  · exact absurd rfl hne
  · rw [State.onEngine_engine, State.withHost_engine, Engine.acceptStart_of_idle _ hp]
    exact .inr ⟨rfl, ⟨rfl, rfl, rfl, rfl, rfl⟩, hr, op, by rw [hh]; rfl, hs⟩
  · exact absurd (Engine.step_of_idle s.config s.sensed hp) hne

/-- Everything a host operation of the table (formats CMD and REG) can do: change nothing but the port `reg_rdata`, or START. -/
theorem exec_host_cases {i : Instr} (h : i.row.format = .cmd ∨ i.row.format = .reg) (s : State) :
    (∃ w, exec i s = .next (s.readsWord w)) ∨ exec i s = .next (s.onEngine (Engine.acceptStart s.config)) := by
  cases i
  case start => exact .inr rfl
  case wrCtrl v =>
    rw [exec_wrCtrl, exec_decodeCommand]
    split
    · exact .inr rfl
    · exact .inl ⟨_, rfl⟩
  case nop | rdCtrl | rdStatus | rdRaw0 | rdRaw1 | rdReading | rdReserved14 | rdReserved18 | rdReserved1C | wrStatus | wrRaw0 |
      wrRaw1 | wrReading | wrReserved14 | wrReserved18 | wrReserved1C => exact .inl ⟨_, rfl⟩
  all_goals exact absurd h (by decide)

theorem State.onEngine_acceptStart_of_busy {s : State} (h : s.engine.phase ≠ .idle) :
    s.onEngine (Engine.acceptStart s.config) = s := by
  rw [onEngine, Engine.acceptStart_of_busy _ h]

/-- Settles O13: of all the host can do only START would write an element, and a busy engine ignores it. -/
theorem hostCannotDisturbATransaction : Obligations.HostCannotDisturbATransaction := by
  intro i s hi hp
  obtain hread | hstart := exec_host_cases hi s
  · exact hread
  · rw [State.onEngine_acceptStart_of_busy hp] at hstart
    exact ⟨s.rdata, hstart⟩

end Sys2Proof.Machine
end

section
/-! PROOFS. Decoding and encoding agree, format by format (30_encoding.md R88 to R91), and the codes of the tables. -/

namespace Sys2Proof.Machine

/-! Command words (R90, R94). -/

/-- The low bit of a word built from its ignored bits and that bit. -/
theorem commandIsStart_append (r : BitVec 31) (b : BitVec 1) : commandIsStart (r ++ b) = b.getLsbD 0 := by
  rw [commandIsStart, BitVec.getLsbD_append, if_pos Nat.zero_lt_one]

/-- A command word is its 31 ignored bits and its bit 0. -/
theorem extractLsb'_append_commandIsStart (w : Word) : w.extractLsb' 1 31 ++ BitVec.ofBool (commandIsStart w) = w := by
  have hbit : BitVec.ofBool (commandIsStart w) = w.extractLsb' 0 1 := by
    rw [commandIsStart, ← BitVec.setWidth_one, BitVec.setWidth_eq_extractLsb' (by decide)]
  rw [hbit, BitVec.extractLsb'_append_extractLsb'_eq_extractLsb' (Nat.zero_add 1).symm]
  exact BitVec.extractLsb'_eq_self

theorem decodeCommand_append_one (r : BitVec 31) : decodeCommand (r ++ 1#1) = .start r := by
  rw [decodeCommand, if_pos (by rw [commandIsStart_append]; decide), BitVec.extractLsb'_append_eq_left]

theorem decodeCommand_append_zero (r : BitVec 31) : decodeCommand (r ++ 0#1) = .nop r := by
  rw [decodeCommand, if_neg (by rw [commandIsStart_append]; decide), BitVec.extractLsb'_append_eq_left]

theorem encode_decodeCommand (w : Word) : encode (decodeCommand w) = .cmd w := by
  have hw := extractLsb'_append_commandIsStart w
  rw [decodeCommand]
  split
  next h =>
    rw [h] at hw
    exact congrArg OpWord.cmd hw
  next h =>
    rw [Bool.not_eq_true] at h
    rw [h] at hw
    exact congrArg OpWord.cmd hw

/-- The word of every operation decodes to it, RestoreIdle's to DriveHigh. -/
theorem decode_encode (i : Instr) : decode (encode i) = .ok i.canonical := by
  cases i
  case start r => exact congrArg Except.ok (decodeCommand_append_one r)
  case nop r => exact congrArg Except.ok (decodeCommand_append_zero r)
  all_goals rfl

/-! The word of what a word decodes to. -/

theorem encode_of_decode_reg {sel : BitVec 9} {v : Word} {i : Instr} (h : decode (.reg sel v) = .ok i) :
    encode i = (OpWord.reg sel v).dropReadData := by
  simp only [decode, decodeRegister] at h
  split at h <;> cases h <;> rfl

theorem encode_of_decode_phase {code : BitVec 4} {i : Instr} (h : decode (.phase code) = .ok i) : encode i = .phase code := by
  simp only [decode, decodePhase] at h
  split at h <;> cases h <;> rfl

theorem encode_of_decode_line {code : BitVec 2} {i : Instr} (h : decode (.line code) = .ok i) : encode i = .line code := by
  simp only [decode, decodeLine] at h
  split at h <;> cases h <;> rfl

/-- Settles O1, by the instruction one way and by the format of the word the other. -/
theorem decodeAndEncodeAgree : Obligations.DecodeAndEncodeAgree := by
  refine ⟨decode_encode, fun w i h => ?_⟩
  cases w with
  | cmd w =>
    obtain rfl : decodeCommand w = i := by injection h
    exact encode_decodeCommand w
  | reg sel v => exact encode_of_decode_reg h
  | phase code => exact encode_of_decode_phase h
  | line code => exact encode_of_decode_line h
  | sample =>
    obtain rfl : Instr.sample = i := by injection h
    rfl

/-- Settles O3: the decoder computes on each of the words. -/
theorem tableWordsDecode : Obligations.TableWordsDecode := by
  unfold Obligations.TableWordsDecode
  decide

/-- Settles O4: the two tables, written out. -/
theorem codesOfPhasesAndErrors : Obligations.CodesOfPhasesAndErrors := ⟨rfl, rfl⟩

end Sys2Proof.Machine
end

section
/-! PROOFS. START in IDLE (40_host_commands.md R110), the faults of the engine's operations (30_encoding.md R96), and the operation a
placed word runs as (log entry 11). -/

namespace Sys2Proof.Machine

/-- STATUS does not show `tmr` (10_state.md R33). -/
theorem statusWord_tmr (S : Engine) (tm : BitVec 16) : statusWord { S with tmr := tm } = statusWord S := rfl

/-- Settles O5: a write to CTRL is its data as a command word, and an accepted START writes every element. -/
theorem startAcceptedInIdle : Obligations.StartAcceptedInIdle := by
  intro s hp t
  have ht : s.onEngine (Engine.acceptStart s.config) = t := by
    rw [State.onEngine, Engine.acceptStart_of_idle s.config hp]
  refine ⟨fun r => congrArg Host.Outcome.next ht, fun v hv => ?_,
    statusWord_tmr { Engine.reset with phase := .startLow, lineOut := .low } _⟩
  rw [exec_wrCtrl, exec_decodeCommand, if_pos (show commandIsStart v = true from hv), ht]

/-- Every operation of format PHASE is one engine tick (10_state.md R40). -/
theorem exec_phase_is_engineTick {i : Instr} (h : i.row.format = .phase) (s : State) :
    ∃ samples S, exec i s = engineTick samples S s := by
  cases i
  case idle | startLow | startHigh | awaitResponse | awaitAck | awaitDataStart | bitWaitHigh | bitSampleDelay | bitWaitLow |
      finalize => exact ⟨_, _, rfl⟩
  all_goals cases h

/-- Settles O31: an engine tick tests the codes before anything else. -/
theorem unreachableCodesFault : Obligations.UnreachableCodesFault := by
  intro i s hi he
  obtain ⟨samples, S, hx⟩ := exec_phase_is_engineTick hi s
  rw [hx, engineTick_of_not_encodable he]

/-! Words in whole bytes (30_encoding.md R100). -/

/-- A table word that decodes is a word of the format its width says. -/
theorem decodeTableWord_cases {nbits w : Nat} {i : Instr} (hn : nbits = 32 ∨ nbits = 16 ∨ nbits = 8)
    (h : decodeTableWord nbits w = some i) :
    ∃ ow, tableWord nbits w = some ow ∧ decode ow = .ok i ∧
      ((∃ v, ow = .cmd v) ∨ (∃ sel, ow = .reg sel 0) ∨ (nbits = 8 ∧ ∃ code, ow = .phase code)) := by
  rw [decodeTableWord] at h
  split at h
  case h_2 => cases h
  case h_1 ow how =>
    have hd : decode ow = .ok i := by
      cases hd : decode ow <;> rw [hd] at h <;> cases h
      rfl
    refine ⟨ow, how, hd, ?_⟩
    obtain rfl | rfl | rfl := hn <;>
      simp only [tableWord, Nat.reduceEqDiff, if_true, if_false, or_true, or_self, Option.ite_none_right_eq_some,
        Option.some.injEq] at how <;>
      obtain ⟨-, rfl⟩ := how
    · exact .inl ⟨_, rfl⟩
    · exact .inr (.inl ⟨_, rfl⟩)
    · exact .inr (.inr ⟨rfl, _, rfl⟩)

/-- A phase code that decodes is the code of a phase (30_encoding.md R88). -/
theorem phaseOfCode_of_decode {code : BitVec 4} {i : Instr} (h : decode (.phase code) = .ok i) :
    ∃ p, phaseOfCode code = some p ∧ p.code = code := by
  simp only [decode, decodePhase] at h
  split at h <;> cases h <;> exact ⟨_, rfl, rfl⟩

/-- Settles O34, by the format of the word: a host operation goes to the head of the host's list, a phase code to `phase` with WAIT 1
at the head of the list. -/
theorem placedWordIsTheNextOperation : Obligations.PlacedWordIsTheNextOperation := by
  intro s nbits w i hc hn h
  obtain ⟨ow, how, hd, hfmt⟩ := decodeTableWord_cases hn h
  rw [State.withFetchWord, how]
  have hrun {ow' : OpWord} {u : State} (hconf : (s.placeWord ow').config = s.config) (hrst : (s.placeWord ow').rst = false)
      (hu : fetchReleased (s.placeWord ow') = .run i u) : step (s.placeWord ow') = exec i u :=
    step_of_run ((fetch_of_released (hconf ▸ hc) hrst).trans hu)
  obtain ⟨v, rfl⟩ | ⟨sel, rfl⟩ | ⟨rfl, code, rfl⟩ := hfmt
  · obtain rfl : decodeCommand v = i := by injection hd
    exact ⟨_, hrun rfl rfl (fetchReleased_command rfl), rfl, rfl, rfl, rfl, rfl, rfl, rfl, rfl, fun _ => rfl⟩
  · exact ⟨_, hrun rfl rfl (fetchReleased_access rfl hd), rfl, rfl, rfl, rfl, rfl, rfl, rfl, rfl, fun _ => rfl⟩
  · obtain ⟨p, hp, rfl⟩ := phaseOfCode_of_decode hd
    have hplace : s.placeWord (.phase p.code) =
        { s with rst := false, host := .wait 1 :: s.host, engine := { s.engine with phase := p } } := by
      simp only [State.placeWord, hp]
    have hfetch := (fetchReleased_wait_succ (congrArg State.host hplace)).trans (fetchEngine_of_decode (by rw [hplace]; exact hd))
    refine ⟨_, hrun ?_ ?_ hfetch, ?_⟩ <;> rw [hplace]
    exact ⟨rfl, rfl, rfl, rfl, rfl, rfl, rfl, rfl, fun h8 => absurd rfl h8⟩

end Sys2Proof.Machine
end

section
/-! PROOFS. Numbers: a frame and its bytes (30_encoding.md R84 to R86), sign and magnitude (44_finalize_decode.md R186), and the
Reading after a success (R188). -/

namespace Sys2Proof.Machine

/-- Settles O27: the bytes are the base-256 digits. -/
theorem frameIsItsFiveBytes : Obligations.FrameIsItsFiveBytes := by
  intro f
  have hlt := f.isLt
  simp only [byte0, byte1, byte2, byte3, byte4, BitVec.extractLsb'_toNat, Nat.shiftRight_eq_div_pow]
  omega

/-- Two bytes as one number, high byte first (30_encoding.md R85, R86). -/
theorem toNat_append_bytes (hi lo : Byte) : (hi ++ lo).toNat = hi.toNat * 256 + lo.toNat := by
  rw [BitVec.toNat_append, ← Nat.shiftLeft_add_eq_or_of_lt lo.isLt, Nat.shiftLeft_eq]

/-- Bit 15 is the sign, bits 14:0 are the magnitude (44_finalize_decode.md R186). -/
theorem signMagToTwos_toInt (t : BitVec 16) :
    (signMagToTwos t).toInt = if 32768 ≤ t.toNat then -((t.toNat - 32768 : Nat) : Int) else (t.toNat : Int) := by
  have hsign : t.getLsbD 15 = decide (32768 ≤ t.toNat) := BitVec.msb_eq_decide t
  have hmag : ((t.extractLsb' 0 15).setWidth 16).toNat = t.toNat % 32768 := by
    rw [BitVec.toNat_setWidth, BitVec.extractLsb'_toNat, Nat.shiftRight_zero]
    omega
  have hlt := t.isLt
  rw [signMagToTwos, hsign, BitVec.toInt_eq_toNat_cond]
  by_cases hs : 32768 ≤ t.toNat
  · simp only [hs, decide_true, if_true, BitVec.ofNat_eq_ofNat, BitVec.zero_sub, BitVec.toNat_neg, hmag]
    omega
  · simp only [hs, decide_false, Bool.false_eq_true, if_false, hmag]
    omega

/-- Settles O30, from what the invariant says of an idle engine that holds a success. -/
theorem successfulReadingAsNumbers : Obligations.SuccessfulReadingAsNumbers := by
  rintro s ⟨-, hi⟩ hd he r temp
  have hp : s.engine.phase = .idle := by
    by_contra hb
    cases hd.symm.trans (hi.noOutcome hb).1
  obtain ⟨-, -, -, -, -, -, hres⟩ := (Engine.inv_idle hp).mp hi
  obtain ⟨-, hhum, htemp⟩ := hres hd he
  have hraw : (temperatureRaw s.engine.raw).toNat = temp := toNat_append_bytes _ _
  constructor
  · rw [Reading.humidity, show r.humTenths = humidityRaw s.engine.raw from hhum, humidityRaw, toNat_append_bytes]
  · rw [Reading.temperature, show r.tempTenths = signMagToTwos _ from htemp, signMagToTwos_toInt, hraw]
    split
    · push_cast
      ring
    · rfl

end Sys2Proof.Machine
end

section
/-! PROOFS. Stays in a polling phase (42_start_handshake.md R143, R147): samples every `P_POLL` ticks, up to the first that sees the
target or to the failure after the last. -/

namespace Sys2Proof.Machine

/-- The step of phase `p` is `Poll(target, N, E, next)` (30_encoding.md R83). -/
structure Engine.PollsIn (c : Config) (p : Phase) (target : Level) (n : BitVec 8) (e : ErrorKind) (next : Engine → Engine) :
    Prop where
  not_idle : p ≠ .idle
  not_finalize : p ≠ .finalize
  step_eq : ∀ (S : Engine) (l : Level), S.phase = p → S.step c l = S.poll c target n e next l

/-! The five polling phases. -/

section
variable (c : Config)

theorem Engine.pollsIn_awaitResponse :
    PollsIn c .awaitResponse .low c.nResponse .noResponse (fun T => { T with phase := .awaitAck }) :=
  ⟨nofun, nofun, fun S l h => by rw [step, h, awaitResponse]⟩

theorem Engine.pollsIn_awaitAck : PollsIn c .awaitAck .high c.nAck .noAck (fun T => { T with phase := .awaitDataStart }) :=
  ⟨nofun, nofun, fun S l h => by rw [step, h, awaitAck]⟩

theorem Engine.pollsIn_awaitDataStart : PollsIn c .awaitDataStart .low c.nDataStart .noDataStart
    (fun T => { T with phase := .bitWaitHigh, bitn := 0, shreg := 0 }) :=
  ⟨nofun, nofun, fun S l h => by rw [step, h, awaitDataStart]⟩

theorem Engine.pollsIn_bitWaitHigh : PollsIn c .bitWaitHigh .high c.nBitHigh .bitTimeout
    (fun T => { T with phase := .bitSampleDelay, tmr := c.tSample - 1 }) :=
  ⟨nofun, nofun, fun S l h => by rw [step, h, bitWaitHigh]⟩

theorem Engine.pollsIn_bitWaitLow : PollsIn c .bitWaitLow .low c.nBitLow .bitTimeout
    (fun T => { T with phase := if T.bitn = Config.nBits then .finalize else .bitWaitHigh }) :=
  ⟨nofun, nofun, fun S l h => by rw [step, h, bitWaitLow]⟩

/-- The table of the polling phases is what their steps do. -/
theorem Engine.pollsIn_of_mem_pollTable {p : Phase} {target : Level} {n : BitVec 8} {e : ErrorKind}
    (h : (p, target, n, e) ∈ pollTable c) :
    ∃ next, PollsIn c p target n e next ∧ ∀ T : Engine, T.phase = p → (next T).phase = phaseAfterTarget T.bitn p := by
  simp only [pollTable, List.mem_cons, List.not_mem_nil, or_false, Prod.mk.injEq] at h
  obtain ⟨rfl, rfl, rfl, rfl⟩ | ⟨rfl, rfl, rfl, rfl⟩ | ⟨rfl, rfl, rfl, rfl⟩ | ⟨rfl, rfl, rfl, rfl⟩ |
    ⟨rfl, rfl, rfl, rfl⟩ := h
  · exact ⟨_, pollsIn_awaitResponse c, fun _ _ => rfl⟩
  · exact ⟨_, pollsIn_awaitAck c, fun _ _ => rfl⟩
  · exact ⟨_, pollsIn_awaitDataStart c, fun _ _ => rfl⟩
  · exact ⟨_, pollsIn_bitWaitHigh c, fun _ _ => rfl⟩
  · exact ⟨_, pollsIn_bitWaitLow c, fun _ _ => rfl⟩

end

/-! A stay in such a phase, from its entry in tick `e`. -/

section
variable {c : Config} {p : Phase} {target : Level} {n : BitVec 8} {fail : ErrorKind} {next : Engine → Engine}
  (h : Engine.PollsIn c p target n fail next) (hP : 1 ≤ c.pPoll.toNat) (L : Nat → Level)
include h hP

/-- A sample that misses is counted, and `m` of the `P_POLL - 1` ticks of waiting after it pass. -/
theorem Engine.PollsIn.run_miss {S : Engine} {k m : Nat} (hp : S.phase = p) (ht : S.tmr = 0) (hi : S.iter ≠ n)
    (hL : L k ≠ target) (hm : m < c.pPoll.toNat) :
    Engine.run c L k S (m + 1) =
      { S with iter := S.iter + 1, tmr := c.pPoll.setWidth 16 - 1 - BitVec.ofNat 16 m } := by
  rw [Engine.run_succ, h.step_eq S _ hp, Engine.poll_miss _ _ _ _ _ _ ht hi hL, Engine.run_of_wait]
  · rw [hp]; exact h.not_idle
  · rw [hp]; exact h.not_finalize
  · show m ≤ (c.pPoll.setWidth 16 - 1).toNat
    bv_omega

variable {S : Engine} {e j : Nat} (hp : S.phase = p) (ht : S.tmr = 0) (hi : S.iter = 0)
include hp ht hi

/-- `j` samples that miss take `j × P_POLL` ticks, all of them in the phase. -/
theorem Engine.PollsIn.run_misses (hj : j ≤ n.toNat) (hL : ∀ i < j, L (e + i * c.pPoll.toNat) ≠ target) :
    Engine.run c L e S (j * c.pPoll.toNat) = { S with iter := BitVec.ofNat 8 j } ∧
      ∀ m ≤ j * c.pPoll.toNat, (Engine.run c L e S m).phase = p := by
  induction j with
  | zero =>
    rw [Nat.zero_mul]
    refine ⟨congrArg (fun i => { S with iter := i }) hi, fun m hm => ?_⟩
    rw [Nat.le_zero.mp hm]
    exact hp
  | succ j ih =>
    obtain ⟨hrun, hstay⟩ := ih (by omega) fun i hij => hL i (by omega)
    have hmiss {m : Nat} (hm : m < c.pPoll.toNat) : Engine.run c L e S (j * c.pPoll.toNat + (m + 1)) =
        { S with iter := BitVec.ofNat 8 (j + 1), tmr := c.pPoll.setWidth 16 - 1 - BitVec.ofNat 16 m } := by
      rw [Engine.run_add, hrun, h.run_miss hP L (by exact hp) (by exact ht) (by bv_omega) (hL j j.lt_succ_self) hm]
      simp only [BitVec.ofNat_add]
      rfl
    obtain ⟨w, hw⟩ : ∃ w, c.pPoll.toNat = w + 1 := ⟨c.pPoll.toNat - 1, by omega⟩
    rw [Nat.succ_mul]
    refine ⟨?_, fun m hm => ?_⟩
    · have hzero : c.pPoll.setWidth 16 - 1 - BitVec.ofNat 16 w = S.tmr := by rw [ht]; bv_omega
      have hrun' := hmiss (m := w) (by omega)
      rwa [hzero, ← hw] at hrun'
    · obtain hlt | hle := Nat.lt_or_ge (j * c.pPoll.toNat) m
      · obtain ⟨i, rfl⟩ := Nat.exists_eq_add_of_lt hlt
        rw [Nat.add_assoc, hmiss (by omega)]
        exact hp
      · exact hstay m hle

/-- The first sample that sees the target, `j`, ends the stay in its tick. -/
theorem Engine.PollsIn.run_hit (hj : j < n.toNat) (hL : ∀ i < j, L (e + i * c.pPoll.toNat) ≠ target)
    (hhit : L (e + j * c.pPoll.toNat) = target) :
    Engine.run c L e S (j * c.pPoll.toNat + 1) = next { S with tmr := 0, iter := 0 } := by
  obtain ⟨hrun, -⟩ := h.run_misses hP L hp ht hi hj.le hL
  rw [Engine.run, hrun, h.step_eq _ _ (by exact hp),
    Engine.poll_hit _ _ _ _ _ _ (by exact ht) (show BitVec.ofNat 8 j ≠ n by bv_omega) hhit]

/-- With `N` samples that miss, the step after the last waiting tick takes the failure. -/
theorem Engine.PollsIn.run_timeout (hL : ∀ i < n.toNat, L (e + i * c.pPoll.toNat) ≠ target) :
    Engine.run c L e S (n.toNat * c.pPoll.toNat + 1) = S.abort fail := by
  obtain ⟨hrun, -⟩ := h.run_misses hP L hp ht hi le_rfl hL
  rw [Engine.run, hrun, h.step_eq _ _ (by exact hp),
    Engine.poll_timeout _ _ _ _ _ _ (by exact ht) (show BitVec.ofNat 8 n.toNat = n by bv_omega)]
  rfl

end

/-- Settles O53: the stay up to the hit, or up to the failure. -/
theorem pollingWindowIsExact : Obligations.PollingWindowIsExact := by
  intro c L e S p target n fail hc hmem hp ht hi
  obtain ⟨-, -, hP, -⟩ := hc
  obtain ⟨next, h, hnext⟩ := Engine.pollsIn_of_mem_pollTable c hmem
  refine ⟨fun j hj hL hhit => ⟨?_, (h.run_misses hP L hp ht hi hj.le hL).2⟩,
    fun hL => ⟨h.run_timeout hP L hp ht hi hL, (h.run_misses hP L hp ht hi le_rfl hL).2⟩⟩
  rw [h.run_hit hP L hp ht hi hj hL hhit]
  exact hnext _ hp

end Sys2Proof.Machine
end

section
/-! PROOFS. One bit of a frame (43_bit_readout.md R161 to R169), and the discrimination law (R167). -/

namespace Sys2Proof.Machine

/-- The wait of BIT_SAMPLE_DELAY and the sample that ends it (43_bit_readout.md R163). -/
theorem Engine.run_bitSampleDelay (c : Config) (L : Nat → Level) (k : Nat) {S : Engine} (hp : S.phase = .bitSampleDelay) :
    Engine.run c L k S (S.tmr.toNat + 1) =
      { S with shreg := shiftIn S.shreg (L (k + S.tmr.toNat)), bitn := S.bitn + 1, phase := .bitWaitLow, tmr := 0, iter := 0 } := by
  rw [run, run_to_zero c L k (by rw [hp]; nofun) (by rw [hp]; nofun), step]
  simp only [hp]
  exact timed_of_zero rfl _

/-- The high of a bit is seen by sample `j`, and the bit shifted in is the level `T_SAMPLE` ticks later. -/
theorem Engine.run_bit_sampled {c : Config} (hc : c.Legal) (L : Nat → Level) {e j : Nat} {S : Engine}
    (hp : S.phase = .bitWaitHigh) (ht : S.tmr = 0) (hi : S.iter = 0) (hj : j < c.nBitHigh.toNat)
    (hlow : ∀ m < j, L (e + m * c.pPoll.toNat) = .low) (hhigh : L (e + j * c.pPoll.toNat) = .high) :
    Engine.run c L e S (j * c.pPoll.toNat + c.tSample.toNat + 1) =
      { S with shreg := shiftIn S.shreg (L (e + j * c.pPoll.toNat + c.tSample.toNat)), bitn := S.bitn + 1,
               phase := .bitWaitLow, tmr := 0, iter := 0 } := by
  obtain ⟨-, -, hP, -, -, -, -, -, hsample, -⟩ := hc
  have hload : (c.tSample - 1).toNat + 1 = c.tSample.toNat := by bv_omega
  have hticks : j * c.pPoll.toNat + c.tSample.toNat + 1 = (j * c.pPoll.toNat + 1) + ((c.tSample - 1).toNat + 1) := by omega
  have htick : e + (j * c.pPoll.toNat + 1) + (c.tSample - 1).toNat = e + j * c.pPoll.toNat + c.tSample.toNat := by omega
  rw [hticks, run_add, (pollsIn_bitWaitHigh c).run_hit hP L hp ht hi hj (fun m hm => by rw [hlow m hm]; nofun) hhigh, ← htick]
  exact run_bitSampleDelay c L _ rfl

/-- The first of the samples every `P` ticks from `e` on that is not before `r`: it is less than `P` after `r`. -/
theorem exists_first_sample {P : Nat} (hP : 1 ≤ P) {e r : Nat} (her : e ≤ r) :
    ∃ j, r ≤ e + j * P ∧ e + j * P < r + P ∧ ∀ i < j, e + i * P < r := by
  have hex : ∃ j, r ≤ e + j * P := ⟨r, (Nat.le_mul_of_pos_right r hP).trans (Nat.le_add_left _ _)⟩
  have hmin : ∀ i < Nat.find hex, e + i * P < r := fun i hi => Nat.lt_of_not_le (Nat.find_min hex hi)
  refine ⟨Nat.find hex, Nat.find_spec hex, ?_, hmin⟩
  match hj : Nat.find hex with
  | 0 => omega
  | i + 1 =>
    have := hmin i (by omega)
    rw [Nat.succ_mul]
    omega

/-- Settles O55: the pulse is detected by the first sample `j` not before its rise, and the bit's sample is `T_SAMPLE` ticks later, in
the pulse or after it. -/
theorem pulseWidthDecidesTheBit : Obligations.PulseWidthDecidesTheBit := by
  intro c L e r w S hc hp ht hi her hrN hw hbefore hpulse hafter
  have ⟨_, _, hP, _, _, _, hN, _⟩ := hc
  obtain ⟨j, hrj, hjP, hmin⟩ := exists_first_sample hP her
  have hfirst {i : Nat} (hri : r ≤ e + i * c.pPoll.toNat) : j ≤ i := Nat.le_of_not_lt fun hij => absurd (hmin i hij) (by omega)
  have hj : j < c.nBitHigh.toNat := by
    have := hfirst hrN
    omega
  have hin : e + j * c.pPoll.toNat < r + w := by
    obtain hw | ⟨i, hri, hiw⟩ := hw
    · omega
    · have := Nat.mul_le_mul_right c.pPoll.toNat (hfirst hri)
      omega
  have hlow : ∀ m < j, L (e + m * c.pPoll.toNat) = .low := fun m hm => hbefore _ (by omega) (hmin m hm)
  have hhigh : L (e + j * c.pPoll.toNat) = .high := hpulse _ hrj hin
  have hbit : L (e + j * c.pPoll.toNat + c.tSample.toNat) =
      if e + j * c.pPoll.toNat - r + c.tSample.toNat < w then .high else .low := by
    split
    · exact hpulse _ (by omega) (by omega)
    · exact hafter _ (by omega) (by omega)
  have hrun := Engine.run_bit_sampled hc L hp ht hi hj hlow hhigh
  have hstay := ((Engine.pollsIn_bitWaitHigh c).run_misses hP L hp ht hi hj.le fun m hm => by rw [hlow m hm]; nofun).2
  have hd : e + j * c.pPoll.toNat - e = j * c.pPoll.toNat := by omega
  refine ⟨e + j * c.pPoll.toNat, hrj, hjP, fun n hn => hstay n (by omega), ?_⟩
  rw [hd, hrun, hbit]
  refine ⟨rfl, rfl, rfl, fun hw => ?_, fun hw => ?_⟩
  · rw [if_neg (by omega)]
  · rw [if_pos (by omega)]

end Sys2Proof.Machine
end

section
/-! PROOFS. PERFORM_READING (30_encoding.md R98): START, then WAITDONE until the transaction has ended, then two reads, which give the
host the outcome (40_host_commands.md R120). -/

namespace Sys2Proof.Machine

/-! The outcome, from the words of STATUS and READING. -/

theorem errorKindOfCode_code (e : ErrorKind) : errorKindOfCode e.code = some e := by cases e <;> rfl

theorem Engine.outcome_eq_none_iff (S : Engine) : S.outcome = none ↔ S.done = false := by
  rw [outcome]
  cases S.done <;> cases S.err <;> simp

theorem outcomeOfWords_eq_outcome (S : Engine) : outcomeOfWords (statusWord S) (readingWord S) = S.outcome := by
  rw [outcomeOfWords, statusWord_done, statusWord_valid, statusWord_err, Engine.outcome, Engine.valid]
  cases S.done
  case false => rfl
  case true =>
    cases S.err with
    | none =>
      rw [readingWord, BitVec.extractLsb'_append_eq_left, BitVec.extractLsb'_append_eq_right]
      rfl
    | some e =>
      rw [errCode, errorKindOfCode_code]
      rfl

/-! The host's operations of PERFORM_READING, one step each. -/

section
variable {s : State} {rest : List HostOp} (hc : s.config.Legal) (hr : s.rst = false)
include hc hr

theorem step_of_command {w : Word} (hh : s.host = .command w :: rest) (hw : commandIsStart w = true) :
    step s = .next ((s.withHost rest).onEngine (Engine.acceptStart s.config)) := by
  rw [step_of_run ((fetch_of_released hc hr).trans (fetchReleased_command hh)), exec_decodeCommand, if_pos hw]
  rfl

/-- One read of STATUS by WAITDONE, which leaves the loop exactly with DONE = 1. -/
theorem step_of_waitDone (hh : s.host = .waitDone :: rest) :
    step s = .next ((s.withHost (if s.engine.done then rest else .wait 1 :: .waitDone :: rest)).readsWord
      (statusWord s.engine)) := by
  rw [step_of_run ((fetch_of_released hc hr).trans (fetchReleased_waitDone hh)), waitDoneLeft, statusWord_done]
  rfl

theorem step_of_wait_one (hh : s.host = .wait 1 :: rest) (he : s.engine.Encodable) :
    step s = .next ((s.withHost rest).afterTick (s.engine.step s.config s.sensed)
      (if s.engine.samples s.config then some s.sensed else none)) := by
  rw [step_of_fetchEngine ((fetch_of_released hc hr).trans (fetchReleased_wait_succ hh))]
  exact engineTick_of_encodable (s := s.withHost rest) he _ _

theorem step_of_read {sel : BitVec 9} {v w : Word} {i : Instr} (hh : s.host = .access sel v :: rest)
    (hd : decode (.reg sel v) = .ok i) (hi : exec i (s.withHost rest) = .next ((s.withHost rest).readsWord w)) :
    step s = .next ((s.withHost rest).readsWord w) :=
  (step_of_run ((fetch_of_released hc hr).trans (fetchReleased_access hh hd))).trans hi

end

/-- Runs of a machine compose. -/
theorem run_add_of_run {M : Host.Core} {m : Nat} {s u : M.State} (h : M.run m s = .next u) (n : Nat) :
    M.run (m + n) s = M.run n u := by
  induction m generalizing s with
  | zero =>
    obtain rfl : s = u := by injection h
    rw [Nat.zero_add]
  | succ m ih =>
    rw [Nat.succ_add]
    cases hs : M.step s <;> simp only [Host.Core.run, hs] at h ⊢
    case next v => exact ih h
    all_goals cases h

/-- One pass of WAITDONE with DONE = 0: one read of STATUS and one tick of the engine, in two steps (log entry 19). -/
theorem waitDone_pass {s : State} {rest : List HostOp} (hs : s.Inv) (hr : s.rst = false) (hh : s.host = .waitDone :: rest)
    (hd : s.engine.done = false) :
    ∃ v, (∀ k, Host.Core.run core (k + 2) s = Host.Core.run core k v) ∧ v.Inv ∧ v.rst = false ∧
      v.host = .waitDone :: rest ∧ v.tick = s.tick + 1 ∧ v.config = s.config ∧
      ∀ m, Engine.run v.config v.sensedAfter 0 v.engine m = Engine.run s.config s.sensedAfter 0 s.engine (m + 1) := by
  obtain ⟨hc, hi⟩ := hs
  have hread := step_of_waitDone hc hr hh
  rw [hd, if_neg Bool.false_ne_true] at hread
  have htick := step_of_wait_one (s := (s.withHost (.wait 1 :: .waitDone :: rest)).readsWord (statusWord s.engine))
    hc hr rfl hi.encodable
  refine ⟨_, fun k => (core_run_succ hread (k + 1)).trans (core_run_succ htick k), ⟨hc, hi.step hc s.sensed⟩, hr, rfl, rfl,
    rfl, fun m => ?_⟩
  rw [Engine.run_succ]
  refine Engine.run_congr s.config _ fun i _ => ?_
  rw [State.sensedAfter_afterTick, Nat.zero_add, Nat.zero_add]
  rfl

/-- WAITDONE ends in the first tick from which DONE is 1, and meanwhile only the engine's steps happen. -/
theorem waitDone_ends {n : Nat} {s : State} {rest : List HostOp} (hs : s.Inv) (hr : s.rst = false)
    (hh : s.host = .waitDone :: rest) (hbusy : ∀ m < n, (Engine.run s.config s.sensedAfter 0 s.engine m).done = false)
    (hdone : (Engine.run s.config s.sensedAfter 0 s.engine n).done = true) :
    ∃ k t, Host.Core.run core k s = .next t ∧ t.engine = Engine.run s.config s.sensedAfter 0 s.engine n ∧
      t.tick = s.tick + n ∧ t.host = rest ∧ t.rst = false ∧ t.config = s.config := by
  induction n generalizing s with
  | zero =>
    have hread := step_of_waitDone hs.legal hr hh
    rw [if_pos (show s.engine.done = true from hdone)] at hread
    exact ⟨1, _, core_run_succ hread 0, rfl, rfl, rfl, hr, rfl⟩
  | succ n ih =>
    obtain ⟨v, hpass, hv, hvr, hvh, hvt, hvc, hnext⟩ := waitDone_pass hs hr hh (hbusy 0 n.succ_pos)
    obtain ⟨k, t, hrun, heng, htick, hhost, hrst, hconf⟩ := ih hv hvr hvh
      (fun m hm => by rw [hnext]; exact hbusy _ (Nat.succ_lt_succ hm)) (by rw [hnext]; exact hdone)
    exact ⟨k + 2, t, (hpass k).trans hrun, heng.trans (hnext n), by rw [htick, hvt]; omega, hhost, hrst, hconf.trans hvc⟩

/-- The last two items of PERFORM_READING: the word the host is left with is READING. -/
theorem run_rdStatus_rdReading {s : State} {rest : List HostOp} (hc : s.config.Legal) (hr : s.rst = false)
    (hh : s.host = .access 0x004 0 :: .access 0x010 0 :: rest) :
    ∃ t, Host.Core.run core 2 s = .next t ∧ t.host = rest ∧ t.engine = s.engine ∧ t.tick = s.tick ∧
      t.rdata = readingWord s.engine := by
  let u := (s.withHost (.access 0x010 0 :: rest)).readsWord (statusWord s.engine)
  have hstatus : step s = .next u := step_of_read hc hr hh (i := .rdStatus) rfl rfl
  have hreading : step u = .next ((u.withHost rest).readsWord (readingWord s.engine)) :=
    step_of_read (s := u) hc hr rfl (i := .rdReading) rfl rfl
  exact ⟨_, (core_run_succ hstatus 1).trans (core_run_succ hreading 0), rfl, rfl, rfl, rfl⟩

/-- Settles O60: the transaction of the accepted START ends (`everyTransactionEndsWithinTheBound`), WAITDONE with it, and the two reads
leave the engine alone. -/
theorem performReadingAlwaysReturns : Obligations.PerformReadingAlwaysReturns := by
  rintro s rest ⟨hc, hi⟩ hr hp hh
  obtain ⟨n, hn, hidle, hdone, -, hbusy⟩ := everyTransactionEndsWithinTheBound s.config s.sensedAfter 0 s.engine hc hp
  let started := (s.withHost (HostOp.performReading.tail ++ rest)).onEngine (Engine.acceptStart s.config)
  have hstart : step s = .next started := step_of_command hc hr hh rfl
  obtain ⟨k, u, hrun, heng, htick, hhost, hrst, hconf⟩ :=
    waitDone_ends (s := started) ⟨hc, hi.acceptStart hc⟩ hr rfl (fun m hm => (hbusy m hm).2) hdone
  obtain ⟨t, hreads, hthost, hteng, httick, htdata⟩ := run_rdStatus_rdReading (by rw [hconf]; exact hc) hrst hhost
  have hengine : t.engine = Engine.run s.config s.sensedAfter 0 (s.engine.acceptStart s.config) n := hteng.trans heng
  have hticks : t.tick = s.tick + n := httick.trans htick
  have hdata : t.rdata = readingWord t.engine := by rw [htdata, hteng]
  refine ⟨k + 2 + 1, t, ?_, hthost, by rwa [hengine], by omega, hdata, ?_, ?_, ?_⟩
  · rw [core_run_succ hstart, run_add_of_run hrun, hreads]
  · rw [hticks, Nat.add_sub_cancel_left, hengine]
  · rw [Ne, Engine.outcome_eq_none_iff, hengine, hdone, Bool.not_eq_false]
  · rw [hdata, outcomeOfWords_eq_outcome]

end Sys2Proof.Machine
end

section
/-! PROOFS. The levels of a sensor script by its runs (30_encoding.md R99), and those of the nominal sensor (95_test_vectors.md
section 0). -/

namespace Sys2Proof

theorem SensorScript.after_add (sc : SensorScript) (k n : Nat) : sc.after (k + n) = (sc.after k).after n := by
  induction n with
  | zero => rfl
  | succ n ih => rw [← Nat.add_assoc, after, ih, after]

/-- A run of `n + 1` ticks, `i` of them gone. -/
theorem SensorScript.after_of_run {sc : SensorScript} {l : Level} {n : Nat} {rs : List (Level × Nat)}
    (h : sc.runs = (l, n + 1) :: rs) {i : Nat} (hi : i ≤ n) : (sc.after i).runs = (l, n - i + 1) :: rs := by
  induction i with
  | zero => exact h
  | succ i ih =>
    have hleft : n - i = n - (i + 1) + 1 := by omega
    rw [after, advance, ih (by omega), scriptAdvance_cons, if_neg (by omega), hleft]

/-- The level the script shows in tick `k`, counted from its beginning. -/
def SensorScript.shown (sc : SensorScript) (k : Nat) : Level := (sc.after k).level k

/-- `sc` has come to the runs `rs` in tick `k`. -/
def SensorScript.RunsFrom (sc : SensorScript) (k : Nat) (rs : List (Level × Nat)) : Prop := (sc.after k).runs = rs

section
variable {sc : SensorScript} {k n : Nat} {l : Level} {rs : List (Level × Nat)}

theorem SensorScript.RunsFrom.shown_eq (h : sc.RunsFrom k ((l, n) :: rs)) {i : Nat} (hk : k ≤ i) (hi : i < k + n) :
    sc.shown i = l := by
  obtain ⟨j, rfl⟩ := Nat.exists_eq_add_of_le hk
  obtain ⟨m, rfl⟩ : ∃ m, n = m + 1 := ⟨n - 1, by omega⟩
  rw [shown, after_add, level, after_of_run h (by omega), scriptLevel_cons _ _ _ _ (Nat.succ_pos _)]
  rfl

theorem SensorScript.RunsFrom.next (h : sc.RunsFrom k ((l, n) :: rs)) (hn : 0 < n) : sc.RunsFrom (k + n) rs := by
  obtain ⟨m, rfl⟩ : ∃ m, n = m + 1 := ⟨n - 1, by omega⟩
  rw [RunsFrom, ← Nat.add_assoc, after, after_add, advance, after_of_run h le_rfl, Nat.sub_self]
  rfl

end

namespace Machine

/-- The width of the high pulse of bit `n` from the nominal sensor. -/
def nominalWidth (f : Frame) (n : Nat) : Nat := if f.getLsbD n then 70 else 27

theorem nominalWidth_bounds (f : Frame) (n : Nat) : 27 ≤ nominalWidth f n ∧ nominalWidth f n ≤ 70 := by
  rw [nominalWidth]
  split <;> decide

/-- What the nominal sensor still shows with `n` bits to come. -/
def nominalRest (f : Frame) (n : Nat) : List (Level × Nat) := nominalBits f n ++ [(.low, 50)]

/-- With bits to come or none, the line is low first, for 50 ticks. -/
theorem nominalRest_low (f : Frame) (n : Nat) : ∃ rs, nominalRest f n = (.low, 50) :: rs := by
  cases n <;> exact ⟨_, rfl⟩

/-- A bit is a low of 50 ticks and a high of its width. -/
theorem nominalRest_succ (f : Frame) (n : Nat) :
    nominalRest f (n + 1) = (.low, 50) :: (.high, nominalWidth f n) :: nominalRest f n := rfl

end Machine

end Sys2Proof
end

section
/-! PROOFS. The nominal sensor's transaction (95_test_vectors.md section 0): the start pulse, the three handshake phases, forty bits
and FINALIZE, each from the state the one before it leaves. -/

namespace Sys2Proof.Machine

/-- From `S` in tick `k` the engine comes to be `T` in tick `k'`. -/
def Engine.Reaches (c : Config) (L : Nat → Level) (k : Nat) (S : Engine) (k' : Nat) (T : Engine) : Prop :=
  ∃ n, k' = k + n ∧ Engine.run c L k S n = T

theorem Engine.Reaches.trans {c : Config} {L : Nat → Level} {k₁ k₂ k₃ : Nat} {S₁ S₂ S₃ : Engine}
    (h : Reaches c L k₁ S₁ k₂ S₂) (h' : Reaches c L k₂ S₂ k₃ S₃) : Reaches c L k₁ S₁ k₃ S₃ := by
  obtain ⟨n, rfl, rfl⟩ := h
  obtain ⟨m, rfl, rfl⟩ := h'
  exact ⟨n + m, Nat.add_assoc _ _ _, run_add _ _ _ _ _ _⟩

theorem Engine.reaches_of_run {c : Config} {L : Nat → Level} {k n : Nat} {S T : Engine} (h : Engine.run c L k S n = T) :
    Reaches c L k S (k + n) T := ⟨n, rfl, h⟩

/-- A polling phase whose target level is not shown before tick `r`, and then for `P_POLL` ticks, ends within these. -/
theorem Engine.PollsIn.reaches_next {c : Config} {p : Phase} {target : Level} {n : BitVec 8} {fail : ErrorKind}
    {next : Engine → Engine} (h : PollsIn c p target n fail next) (hP : 1 ≤ c.pPoll.toNat) {S : Engine} (hp : S.phase = p)
    (ht : S.tmr = 0) (hi : S.iter = 0) {L : Nat → Level} {e r : Nat} (her : e ≤ r)
    (hr : r + c.pPoll.toNat ≤ e + n.toNat * c.pPoll.toNat) (hbefore : ∀ i, e ≤ i → i < r → L i ≠ target)
    (htarget : ∀ i, r ≤ i → i < r + c.pPoll.toNat → L i = target) :
    ∃ e', r < e' ∧ e' ≤ r + c.pPoll.toNat ∧ Reaches c L e S e' (next { S with tmr := 0, iter := 0 }) := by
  obtain ⟨j, hrj, hjr, hmin⟩ := exists_first_sample hP her
  have hj : j < n.toNat := Nat.lt_of_mul_lt_mul_right (a := c.pPoll.toNat) (by omega)
  have hmisses (i : Nat) (hi : i < j) : L (e + i * c.pPoll.toNat) ≠ target := hbefore _ (by omega) (hmin i hi)
  exact ⟨_, Nat.lt_succ_of_le hrj, hjr, reaches_of_run (h.run_hit hP L hp ht hi hj hmisses (htarget _ hrj hjr))⟩

/-- With the reference parameters, a polling phase entered in a run of the other level, or in the run of the target level after it,
ends with its first sample there, if its window, of 100 ticks or more, is not over. -/
theorem Engine.PollsIn.reaches_next_of_runs {p : Phase} {target l : Level} {n : BitVec 8} {fail : ErrorKind}
    {next : Engine → Engine} (h : PollsIn Config.reference p target n fail next) (hn : 50 ≤ n.toNat) {S : Engine}
    (hp : S.phase = p) (ht : S.tmr = 0) (hi : S.iter = 0) {sc : SensorScript} {e b m m' : Nat} {rs : List (Level × Nat)}
    (hruns : sc.RunsFrom b ((l, m) :: (target, m') :: rs)) (hl : l ≠ target) (hm : 0 < m) (hbe : b ≤ e)
    (hem : max e (b + m) + 2 ≤ b + m + m') (hwindow : max e (b + m) + 2 ≤ e + 100) :
    ∃ e', max e (b + m) < e' ∧ e' ≤ max e (b + m) + 2 ∧
      Reaches Config.reference sc.shown e S e' (next { S with tmr := 0, iter := 0 }) := by
  refine h.reaches_next (by decide) hp ht hi (le_max_left _ _) ?_ (fun i hei him => ?_) fun i hmi hi => ?_
  · show max e (b + m) + 2 ≤ e + n.toNat * 2
    omega
  · rwa [hruns.shown_eq (hbe.trans hei) (by omega)]
  · replace hi : i < max e (b + m) + 2 := hi
    exact (hruns.next hm).shown_eq (by omega) (by omega)

/-! The start pulse (42_start_handshake.md R140 to R142). -/

/-- The wait of START_LOW and the step that ends it. -/
theorem Engine.run_startLow (c : Config) (L : Nat → Level) (k : Nat) {S : Engine} (hp : S.phase = .startLow) :
    Engine.run c L k S (S.tmr.toNat + 1) = { S.driveHigh with phase := .startHigh, tmr := c.tStartHigh - 1 } := by
  rw [run, run_to_zero c L k (by rw [hp]; nofun) (by rw [hp]; nofun), step]
  simp only [hp]
  exact timed_of_zero rfl _

/-- The wait of START_HIGH and the step that ends it. -/
theorem Engine.run_startHigh (c : Config) (L : Nat → Level) (k : Nat) {S : Engine} (hp : S.phase = .startHigh) :
    Engine.run c L k S (S.tmr.toNat + 1) = { S.release with phase := .awaitResponse, tmr := 0, iter := 0 } := by
  rw [run, run_to_zero c L k (by rw [hp]; nofun) (by rw [hp]; nofun), step]
  simp only [hp]
  exact timed_of_zero rfl _

/-- The engine of a transaction on entering phase `p`, which reads the line, with no bits sampled. -/
def Engine.entered (p : Phase) : Engine := { Engine.reset with phase := p, lineDir := .input }

/-- Whatever the line shows, AWAIT_RESPONSE is entered right after the start pulse. -/
theorem Engine.reaches_awaitResponse {c : Config} (hc : c.Legal) (L : Nat → Level) (k : Nat) {S : Engine}
    (hp : S.phase = .idle) : Reaches c L k (S.acceptStart c) (k + c.startPulse) (entered .awaitResponse) := by
  have ⟨hlow, hhigh, _⟩ := hc
  have hticks : c.startPulse = ((c.tStartLow - 1).toNat + 1) + ((c.tStartHigh - 1).toNat + 1) := by
    rw [Config.startPulse]
    bv_omega
  rw [acceptStart_of_idle c hp, hticks, ← Nat.add_assoc]
  exact (reaches_of_run (run_startLow c L k rfl)).trans (reaches_of_run (run_startHigh c L _ rfl))

/-! Forty bits (43_bit_readout.md). -/

/-- The engine with `n` of the 40 bits of `f` to come, on entering BIT_WAIT_HIGH, or FINALIZE with none. -/
def Engine.withBitsToCome (f : Frame) (n : Nat) : Engine :=
  { entered (if n = 0 then .finalize else .bitWaitHigh) with bitn := BitVec.ofNat 6 (40 - n), shreg := f >>> n }

/-- The frame assembler, fed with bit `n` of a frame after those above it, holds the frame from bit `n` up. -/
theorem shiftIn_ushiftRight (f : Frame) (n : Nat) :
    shiftIn (f >>> (n + 1)) (if f.getLsbD n then .high else .low) = f >>> n := by
  have hbit : f.getLsbD n = decide (f.toNat / 2 ^ n % 2 = 1) := by
    rw [← BitVec.testBit_toNat, Nat.testBit_eq_decide_div_mod_eq]
  have hlt : f.toNat / 2 ^ n < 2 ^ 40 := (Nat.div_le_self _ _).trans_lt f.isLt
  rw [← BitVec.toNat_inj, shiftIn_toNat, hbit]
  simp only [BitVec.toNat_ushiftRight, Nat.shiftRight_eq_div_pow, Nat.pow_succ, ← Nat.div_div_eq_div_mul]
  generalize f.toNat / 2 ^ n = y at hlt
  simp only [decide_eq_true_eq]
  split <;> simp only [if_true, reduceCtorEq, if_false] <;> omega

/-- The engine with the bit above the last `n` of `f` just sampled, on entering BIT_WAIT_LOW. -/
def Engine.bitTaken (f : Frame) (n : Nat) : Engine := { withBitsToCome f n with phase := .bitWaitLow }

/-- A bit read after the low before it: the level `T_SAMPLE` ticks after the detection of its high is the bit. -/
theorem Engine.reaches_bitTaken {sc : SensorScript} {f : Frame} {n b e : Nat} (hn : n < 40)
    (hruns : sc.RunsFrom b (nominalRest f (n + 1))) (hbe : b ≤ e) (heb : e ≤ b + 50) :
    ∃ e', b + 85 < e' ∧ e' ≤ b + 87 ∧ Reaches Config.reference sc.shown e (withBitsToCome f (n + 1)) e' (bitTaken f n) := by
  have hw := nominalWidth_bounds f n
  obtain ⟨rs, hlow⟩ := nominalRest_low f n
  rw [nominalRest_succ, hlow] at hruns
  have hhigh := hruns.next (by decide)
  have hrest := hhigh.next (by omega)
  obtain ⟨d, hd, hd', hdetect⟩ := (pollsIn_bitWaitHigh Config.reference).reaches_next_of_runs (S := withBitsToCome f (n + 1))
    (by decide) rfl rfl rfl hruns nofun (by decide) hbe (by omega) (by omega)
  have hbit : sc.shown (d + 34) = if f.getLsbD n then .high else .low := by
    rw [nominalWidth] at hhigh hrest
    split at hhigh
    next hf => rw [if_pos hf]; exact hhigh.shown_eq (by omega) (by omega)
    next hf => rw [if_neg hf] at hrest ⊢; exact hrest.shown_eq (by omega) (by omega)
  have hbitn : BitVec.ofNat 6 (40 - (n + 1)) + 1 = BitVec.ofNat 6 (40 - n) := by bv_omega
  have hsample : Engine.run Config.reference sc.shown d
      { withBitsToCome f (n + 1) with phase := .bitSampleDelay, tmr := 34, iter := 0 } 35 =
      { withBitsToCome f (n + 1) with
        shreg := shiftIn (f >>> (n + 1)) (sc.shown (d + 34)), bitn := BitVec.ofNat 6 (40 - (n + 1)) + 1,
        phase := .bitWaitLow, tmr := 0, iter := 0 } := run_bitSampleDelay Config.reference sc.shown d rfl
  rw [hbit, shiftIn_ushiftRight, hbitn] at hsample
  exact ⟨d + 35, by omega, by omega, hdetect.trans (reaches_of_run hsample)⟩

/-- The low after a bit: the next bit's, or the last. -/
theorem Engine.withBitsToCome_of_bitTaken (f : Frame) {n : Nat} (hn : n < 40) :
    { bitTaken f n with phase := if (bitTaken f n).bitn = Config.nBits then .finalize else .bitWaitHigh } =
      withBitsToCome f n := by
  have hlast : (bitTaken f n).bitn = Config.nBits ↔ n = 0 := by
    show BitVec.ofNat 6 (40 - n) = 40#6 ↔ n = 0
    bv_omega
  simp only [hlast]
  rfl

/-- One bit, from the low before it to the low after it, which is seen while it lasts. -/
theorem Engine.reaches_next_bit {sc : SensorScript} {f : Frame} {n b e : Nat} (hn : n < 40)
    (hruns : sc.RunsFrom b (nominalRest f (n + 1))) (hbe : b ≤ e) (heb : e ≤ b + 50) :
    ∃ b' e', Reaches Config.reference sc.shown e (withBitsToCome f (n + 1)) e' (withBitsToCome f n) ∧
      sc.RunsFrom b' (nominalRest f n) ∧ b' ≤ e' ∧ e' ≤ b' + 50 := by
  obtain ⟨d, hd, hd', htaken⟩ := reaches_bitTaken hn hruns hbe heb
  have hw := nominalWidth_bounds f n
  obtain ⟨rs, hlow⟩ := nominalRest_low f n
  rw [nominalRest_succ] at hruns
  have hhigh := hruns.next (by decide)
  have hrest := hhigh.next (by omega)
  rw [hlow] at hhigh
  obtain ⟨e', he, he', hnext⟩ := (pollsIn_bitWaitLow Config.reference).reaches_next_of_runs (S := bitTaken f n) (e := d)
    (by decide) rfl rfl rfl hhigh nofun (by omega) (by omega) (by omega) (by omega)
  exact ⟨_, e', htaken.trans (withBitsToCome_of_bitTaken f hn ▸ hnext), hrest, by omega, by omega⟩

/-- All the bits of a frame, and the last low. -/
theorem Engine.reaches_finalize {sc : SensorScript} {f : Frame} {n b e : Nat} (hn : n ≤ 40)
    (hruns : sc.RunsFrom b (nominalRest f n)) (hbe : b ≤ e) (heb : e ≤ b + 50) :
    ∃ e', Reaches Config.reference sc.shown e (withBitsToCome f n) e' (withBitsToCome f 0) := by
  induction n generalizing b e with
  | zero => exact ⟨e, 0, rfl, rfl⟩
  | succ n ih =>
    obtain ⟨b', e', hbit, hruns', hbe', heb'⟩ := reaches_next_bit hn hruns hbe heb
    obtain ⟨e'', hrest⟩ := ih (by omega) hruns' hbe' heb'
    exact ⟨e'', hbit.trans hrest⟩

/-! The whole transaction. -/

/-- The handshake: each of its three levels is seen while it lasts. -/
theorem Engine.reaches_bits {sc : SensorScript} {f : Frame} {b : Nat}
    (hruns : sc.RunsFrom b ((.high, 30) :: (.low, 80) :: (.high, 80) :: nominalRest f 40)) :
    ∃ b' e', Reaches Config.reference sc.shown b (entered .awaitResponse) e' (withBitsToCome f 40) ∧
      sc.RunsFrom b' (nominalRest f 40) ∧ b' ≤ e' ∧ e' ≤ b' + 50 := by
  obtain ⟨rs, hlow⟩ := nominalRest_low f 40
  have hruns₁ := hruns.next (by decide)
  have hruns₂ := hruns₁.next (by decide)
  have hruns₃ := hruns₂.next (by decide)
  rw [hlow] at hruns₂
  obtain ⟨e₁, he₁, he₁', hresponse⟩ := (pollsIn_awaitResponse Config.reference).reaches_next_of_runs
    (S := entered .awaitResponse) (by decide) rfl rfl rfl hruns nofun (by decide) le_rfl (by omega) (by omega)
  obtain ⟨e₂, he₂, he₂', hack⟩ := (pollsIn_awaitAck Config.reference).reaches_next_of_runs
    (S := entered .awaitAck) (e := e₁) (by decide) rfl rfl rfl hruns₁ nofun (by decide) (by omega) (by omega) (by omega)
  obtain ⟨e₃, he₃, he₃', hdata⟩ := (pollsIn_awaitDataStart Config.reference).reaches_next_of_runs
    (S := entered .awaitDataStart) (e := e₂) (by decide) rfl rfl rfl hruns₂ nofun (by decide) (by omega) (by omega) (by omega)
  have hfirst : withBitsToCome f 40 = { entered .bitWaitHigh with bitn := 0, shreg := 0 } := by
    rw [withBitsToCome, BitVec.ushiftRight_eq_zero le_rfl]
    rfl
  exact ⟨_, e₃, (hresponse.trans hack).trans (hfirst ▸ hdata), hruns₃, by omega, by omega⟩

/-- FINALIZE with the whole frame, after a START: its decoded reading if the checksum matches, no result if not. -/
theorem Engine.finalize_withBitsToCome (f : Frame) : (withBitsToCome f 0).finalize =
    if ((byte0 f).toNat + (byte1 f).toNat + (byte2 f).toNat + (byte3 f).toNat) % 256 = (byte4 f).toNat then
      { Engine.reset with
        done := true, raw := f, humTenths := byte0 f ++ byte1 f, tempTenths := signMagToTwos (byte2 f ++ byte3 f) }
    else { Engine.reset with done := true, err := some .checksumMismatch } := by
  have hshreg : (withBitsToCome f 0).shreg = f := BitVec.ushiftRight_zero f
  cases hm : checksumMatches f
  · rw [finalize_of_mismatch (by rw [hshreg, hm]), if_neg (by rw [← checksumMatches_iff, hm]; nofun)]
    rfl
  · rw [finalize_of_match (by rw [hshreg, hm]), if_pos ((checksumMatches_iff f).mp hm), hshreg]
    rfl

/-- Settles O59: the start pulse, the handshake and the forty bits put the frame into `shreg`, and one tick of FINALIZE ends the
transaction. -/
theorem nominalSensorRoundTrip : Obligations.NominalSensorRoundTrip := by
  intro f S hp sc
  have hruns : sc.RunsFrom 0
      ((.high, Config.reference.startPulse) :: (.high, 30) :: (.low, 80) :: (.high, 80) :: nominalRest f 40) := rfl
  have hstart : Engine.Reaches Config.reference sc.shown 0 (S.acceptStart Config.reference) (0 + Config.reference.startPulse)
      (Engine.entered .awaitResponse) := Engine.reaches_awaitResponse invariantHoldsAtReset.legal sc.shown 0 hp
  obtain ⟨b, e, hbits, hbruns, hbe, heb⟩ := Engine.reaches_bits (hruns.next (by decide))
  obtain ⟨e', hframe⟩ := Engine.reaches_finalize le_rfl hbruns hbe heb
  obtain ⟨n, -, hrun⟩ := (hstart.trans hbits).trans hframe
  have hlast : Engine.run Config.reference sc.shown 0 (S.acceptStart Config.reference) (n + 1) =
      (Engine.withBitsToCome f 0).finalize := by
    rw [Engine.run, hrun]
    rfl
  exact ⟨n + 1, hlast.trans (Engine.finalize_withBitsToCome f)⟩

end Sys2Proof.Machine
end

section
/-! PROOFS. The host's commands (40_host_commands.md): START while the engine is busy and NOP, each by its command word or by a write to
CTRL (R111, R112), the slots that ignore writes (R119), the slots that read 0 (R113, R118), and the outcome the host reads (R120). -/

namespace Sys2Proof.Machine

/-! A write to CTRL, by bit 0 of its data. -/

theorem exec_wrCtrl_of_start {v : Word} (h : v.getLsbD 0 = true) (s : State) :
    exec (.wrCtrl v) s = .next (s.onEngine (Engine.acceptStart s.config)) := by
  rw [exec_wrCtrl, exec_decodeCommand, if_pos (show commandIsStart v = true from h)]

theorem exec_wrCtrl_of_nop {v : Word} (h : v.getLsbD 0 = false) (s : State) : exec (.wrCtrl v) s = .next s := by
  rw [exec_wrCtrl, exec_decodeCommand, if_neg (Bool.eq_false_iff.mp (show commandIsStart v = false from h))]

/-- Settles O6: both are START, which a busy engine does not accept. -/
theorem startIgnoredWhileBusy : Obligations.StartIgnoredWhileBusy := by
  intro s hp
  have hs : s.onEngine (Engine.acceptStart s.config) = s := State.onEngine_acceptStart_of_busy hp
  exact ⟨fun _ => congrArg Host.Outcome.next hs, fun v hv => by rw [exec_wrCtrl_of_start hv, hs]⟩

/-- Settles O7: a write to CTRL with bit 0 = 0 is a NOP. -/
theorem nopChangesNothing : Obligations.NopChangesNothing := fun s =>
  ⟨fun _ => rfl, fun _ hv => exec_wrCtrl_of_nop hv s⟩

/-- Settles O8, slot by slot: no write beyond CTRL reaches the engine. -/
theorem readOnlySlotsIgnoreWrites : Obligations.ReadOnlySlotsIgnoreWrites := fun _ _ =>
  ⟨rfl, rfl, rfl, rfl, rfl, rfl, rfl⟩

/-- Settles O9, slot by slot: `ctrlWord` and `reservedWord` are 0, and a read writes `rdata` alone. -/
theorem ctrlAndReservedSlotsReadZero : Obligations.CtrlAndReservedSlotsReadZero := fun _ =>
  ⟨rfl, rfl, rfl, rfl⟩

/-- Settles O49: DONE, VALID and ERR select the case of the outcome, and READING holds its tenths (`outcomeOfWords_eq_outcome`). -/
theorem hostReadsTheOutcome : Obligations.HostReadsTheOutcome := fun S =>
  ⟨outcomeOfWords_eq_outcome S, S.outcome_eq_none_iff⟩

end Sys2Proof.Machine
end

section
/-! PROOFS. The line driver (41_line_driver.md): what its four operations write (R126 to R129), the result of Sample (R132), and the
step of IDLE (R130). -/

namespace Sys2Proof.Machine

/-- Settles O15, operation by operation: each acts by `State.onEngine`, so on the engine alone, and writes there only the line. -/
theorem lineDriverOperationsWriteTheLine : Obligations.LineDriverOperationsWriteTheLine := fun s =>
  ⟨show exec .driveLow s = .next (s.onEngine Engine.driveLow) from rfl,
   show exec .driveHigh s = .next (s.onEngine Engine.driveHigh) from rfl,
   show exec .release s = .next (s.onEngine Engine.release) from rfl,
   show exec .restoreIdle s = .next (s.onEngine Engine.restoreIdle) from rfl⟩

/-- Settles O16: Sample records `State.sensed`, which is the script's level of this tick. -/
theorem sampleReturnsTheSensedLevel : Obligations.SampleReturnsTheSensedLevel := fun s =>
  show exec .sample s = .next { s with sampled := some s.sensed } from rfl

/-- The step of IDLE is an engine tick that keeps the elements and takes no sample. -/
theorem exec_idle_of_encodable {s : State} (h : s.engine.Encodable) : exec .idle s = .next (s.afterTick s.engine none) :=
  engineTick_of_encodable h false s.engine

/-- Settles O17: a tick that keeps the elements changes only the tick's number, the script and `sampled`. -/
theorem idleStepHolds : Obligations.IdleStepHolds := fun _ h => exec_idle_of_encodable h

end Sys2Proof.Machine
end

section
/-! PROOFS. One tick of the polling phases, `Poll(target, N, E, next)` (42_start_handshake.md R143): the four branches of the template,
once each, and from them the steps of AWAIT_RESPONSE, AWAIT_ACK, AWAIT_DATA_START, BIT_WAIT_HIGH and BIT_WAIT_LOW. -/

namespace Sys2Proof.Machine

/-! When a polling step samples (10_state.md R40). -/

section
variable {n : BitVec 8} {S : Engine}

theorem Engine.pollSamples_of_wait (h : S.tmr ≠ 0) : S.pollSamples n = false := decide_eq_false fun hs => h hs.1

theorem Engine.pollSamples_of_last (h : S.iter = n) : S.pollSamples n = false := decide_eq_false fun hs => hs.2 h

theorem Engine.pollSamples_of_due (ht : S.tmr = 0) (hi : S.iter ≠ n) : S.pollSamples n = true := decide_eq_true ⟨ht, hi⟩

end

/-! The four branches: asleep, timed out, target seen, target not seen. -/

section
variable {s : State} {target : Level} {n : BitVec 8} {e : ErrorKind} {next : Engine → Engine} (he : s.engine.Encodable)
include he

theorem engineTick_poll_sleep (ht : s.engine.tmr ≠ 0) :
    engineTick (s.engine.pollSamples n) (s.engine.poll s.config target n e next s.sensed) s =
      .next (s.afterTick { s.engine with tmr := s.engine.tmr - 1 } none) := by
  rw [engineTick_of_encodable he, Engine.poll_sleep _ _ _ _ _ _ ht, Engine.pollSamples_of_wait ht]
  rfl

theorem engineTick_poll_timeout (ht : s.engine.tmr = 0) (hi : s.engine.iter = n) :
    engineTick (s.engine.pollSamples n) (s.engine.poll s.config target n e next s.sensed) s =
      .next (s.afterTick (s.engine.abort e) none) := by
  rw [engineTick_of_encodable he, Engine.poll_timeout _ _ _ _ _ _ ht hi, Engine.pollSamples_of_last hi]
  rfl

theorem engineTick_poll_hit (ht : s.engine.tmr = 0) (hi : s.engine.iter ≠ n) (hl : s.sensed = target) :
    engineTick (s.engine.pollSamples n) (s.engine.poll s.config target n e next s.sensed) s =
      .next (s.afterTick (next { s.engine with tmr := 0, iter := 0 }) (some target)) := by
  rw [engineTick_of_encodable he, Engine.poll_hit _ _ _ _ _ _ ht hi hl, Engine.pollSamples_of_due ht hi, hl]
  rfl

theorem engineTick_poll_miss {other : Level} (hne : other ≠ target) (ht : s.engine.tmr = 0) (hi : s.engine.iter ≠ n)
    (hl : s.sensed = other) :
    engineTick (s.engine.pollSamples n) (s.engine.poll s.config target n e next s.sensed) s =
      .next (s.afterTick { s.engine with iter := s.engine.iter + 1, tmr := s.config.pPoll.setWidth 16 - 1 } (some other)) := by
  rw [engineTick_of_encodable he, hl, Engine.poll_miss _ _ _ _ _ _ ht hi hne, Engine.pollSamples_of_due ht hi]
  rfl

end

/-- Settles O20: the four branches of `Poll(0, N_RESPONSE, NoResponse, …)`. -/
theorem awaitResponseStep : Obligations.AwaitResponseStep := fun _ he =>
  ⟨engineTick_poll_sleep he, engineTick_poll_timeout he, engineTick_poll_hit he, engineTick_poll_miss he nofun⟩

/-- Settles O21: the four branches of `Poll(1, N_ACK, NoAck, …)`. -/
theorem awaitAckStep : Obligations.AwaitAckStep := fun _ he =>
  ⟨engineTick_poll_sleep he, engineTick_poll_timeout he, engineTick_poll_hit he, engineTick_poll_miss he nofun⟩

/-- Settles O22: the four branches of `Poll(0, N_DATA_START, NoDataStart, …)`. -/
theorem awaitDataStartStep : Obligations.AwaitDataStartStep := fun _ he =>
  ⟨engineTick_poll_sleep he, engineTick_poll_timeout he, engineTick_poll_hit he, engineTick_poll_miss he nofun⟩

/-- Settles O23: the four branches of `Poll(1, N_BIT_HIGH, BitTimeout, …)`. -/
theorem bitWaitHighStep : Obligations.BitWaitHighStep := fun _ he =>
  ⟨engineTick_poll_sleep he, engineTick_poll_timeout he, engineTick_poll_hit he, engineTick_poll_miss he nofun⟩

/-- Settles O25: the four branches of `Poll(0, N_BIT_LOW, BitTimeout, …)`. -/
theorem bitWaitLowStep : Obligations.BitWaitLowStep := fun _ he =>
  ⟨engineTick_poll_sleep he, engineTick_poll_timeout he, engineTick_poll_hit he, engineTick_poll_miss he nofun⟩

end Sys2Proof.Machine
end

section
/-! PROOFS. The start pulse tick by tick (42_start_handshake.md R140 to R142), and the transaction of a sensor that never responds
(60_exceptions.md R201). -/

namespace Sys2Proof.Machine

section
variable {c : Config} (hc : c.Legal) (L : Nat → Level) (k : Nat) {S : Engine} (hp : S.phase = .idle)
include hc hp

/-- The engine in each tick of START_LOW. -/
theorem Engine.run_acceptStart_low {n : Nat} (hn : n < c.tStartLow.toNat) :
    Engine.run c L k (S.acceptStart c) n =
      { Engine.reset with phase := .startLow, lineOut := .low, tmr := c.tStartLow - 1 - BitVec.ofNat 16 n } := by
  have hwait : n ≤ (c.tStartLow - 1).toNat := by bv_omega
  rw [acceptStart_of_idle c hp]
  exact run_of_wait c L k (by nofun) (by nofun) n hwait

/-- The engine in each tick of START_HIGH. -/
theorem Engine.run_acceptStart_high {n : Nat} (hn : n < c.tStartHigh.toNat) :
    Engine.run c L k (S.acceptStart c) (c.tStartLow.toNat + n) =
      { Engine.reset with phase := .startHigh, tmr := c.tStartHigh - 1 - BitVec.ofNat 16 n } := by
  have hlow : c.tStartLow.toNat = (c.tStartLow - 1).toNat + 1 := by
    have := hc.1
    bv_omega
  have hwait : n ≤ (c.tStartHigh - 1).toNat := by bv_omega
  rw [acceptStart_of_idle c hp, hlow, run_add, run_startLow c L k rfl]
  exact run_of_wait c L _ (by nofun) (by nofun) n hwait

/-- In every tick of the start pulse the engine is busy, with no bit read. -/
theorem Engine.run_acceptStart_busy {m : Nat} (hm : m < c.startPulse) :
    (Engine.run c L k (S.acceptStart c) m).phase ≠ .idle ∧ (Engine.run c L k (S.acceptStart c) m).bitn = 0 := by
  obtain hlow | hlow := Nat.lt_or_ge m c.tStartLow.toNat
  · rw [run_acceptStart_low hc L k hp hlow]
    exact ⟨nofun, rfl⟩
  · obtain ⟨i, rfl⟩ := Nat.exists_eq_add_of_le hlow
    rw [run_acceptStart_high hc L k hp (Nat.lt_of_add_lt_add_left hm)]
    exact ⟨nofun, rfl⟩

/-- The engine after the start pulse, in the first input tick (42_start_handshake.md R142). -/
theorem Engine.run_startPulse : Engine.run c L k (S.acceptStart c) c.startPulse = entered .awaitResponse := by
  obtain ⟨n, hn, hrun⟩ := reaches_awaitResponse hc L k hp
  rwa [Nat.add_left_cancel hn]

end

/-- Settles O52: the engine is known in each tick of the pulse and in the first after it. -/
theorem startPulseLastsExactly : Obligations.StartPulseLastsExactly := by
  intro c L k S hc hp R
  have hinput : R (c.tStartLow.toNat + c.tStartHigh.toNat) = Engine.entered .awaitResponse := Engine.run_startPulse hc L k hp
  refine ⟨fun n hn => ?_, fun n hlow hhigh => ?_, ?_⟩
  · have hR : R n = _ := Engine.run_acceptStart_low hc L k hp hn
    rw [hR]
    exact ⟨rfl, rfl, rfl⟩
  · obtain ⟨m, rfl⟩ := Nat.exists_eq_add_of_le hlow
    have hR : R (c.tStartLow.toNat + m) = _ := Engine.run_acceptStart_high hc L k hp (Nat.lt_of_add_lt_add_left hhigh)
    rw [hR]
    exact ⟨rfl, rfl, rfl⟩
  · rw [hinput]
    exact ⟨rfl, rfl, rfl, rfl, rfl⟩

/-- Settles O58: after the start pulse all `N_RESPONSE` samples of AWAIT_RESPONSE miss, and before that failure the engine
is in the start pulse or in AWAIT_RESPONSE, where `bitn` is 0. -/
theorem silentSensorGivesNoResponse : Obligations.SilentSensorGivesNoResponse := by
  intro c L k S hc hp hhigh
  have ⟨_, _, hP, _⟩ := hc
  have hmiss (i : Nat) (_ : i < c.nResponse.toNat) : L (k + c.startPulse + i * c.pPoll.toNat) ≠ .low := by
    rw [hhigh _ (Nat.le_add_right _ _)]
    nofun
  have hpoll := Engine.pollsIn_awaitResponse c
  refine ⟨?_, fun m hm => ?_⟩
  · rw [Nat.add_assoc, Engine.run_add, Engine.run_startPulse hc L k hp,
      hpoll.run_timeout hP L (S := Engine.entered .awaitResponse) rfl rfl rfl hmiss]
    rfl
  · obtain hlt | hge := Nat.lt_or_ge m c.startPulse
    · exact Engine.run_acceptStart_busy hc L k hp hlt
    · obtain ⟨i, rfl⟩ := Nat.exists_eq_add_of_le hge
      have hstay : (Engine.run c L k (S.acceptStart c) (c.startPulse + i)).phase = .awaitResponse := by
        rw [Engine.run_add, Engine.run_startPulse hc L k hp]
        exact (hpoll.run_misses hP L rfl rfl rfl le_rfl hmiss).2 i (by omega)
      obtain ⟨-, -, ⟨hbitn, -⟩, -⟩ := (Engine.inv_awaitResponse hstay).mp ((Engine.inv_acceptStart hc hp).run hc L k _)
      exact ⟨by rw [hstay]; nofun, hbitn⟩

end Sys2Proof.Machine
end

section
/-! PROOFS. One bit pass of a frame as a whole (43_bit_readout.md R161, R163, R165, R169): the high, the sample, the low. -/

namespace Sys2Proof.Machine

/-- Settles O54: the stay in BIT_WAIT_HIGH and the sample lead to the entry of BIT_WAIT_LOW in tick `q`, and sample `i` there ends
the pass. -/
theorem bitPassTakesExactly : Obligations.BitPassTakesExactly := by
  intro c L e j i S hc hp ht hi _ P d q hj hlow hhigh hiN hstillHigh hlowAgain
  have ⟨_, _, hP, _⟩ := hc
  have hsampled := Engine.run_bit_sampled hc L hp ht hi hj hlow hhigh
  have hentry : e + (j * P + c.tSample.toNat + 1) = q := by omega
  have hticks : q + i * P + 1 - e = (j * P + c.tSample.toNat + 1) + (i * P + 1) := by omega
  have hmiss (m : Nat) (hm : m < i) : L (q + m * P) ≠ .low := by
    rw [hstillHigh m hm]
    nofun
  rw [hticks, Engine.run_add, hsampled, hentry, (Engine.pollsIn_bitWaitLow c).run_hit hP L rfl rfl rfl hiN hmiss hlowAgain]
  rfl

end Sys2Proof.Machine
end

section
/-! PROOFS. The one step of FINALIZE (44_finalize_decode.md R181), the checksum that decides it (R182, R183), and the sign-magnitude
conversion as numbers (R186). -/

namespace Sys2Proof.Machine

/-- The step of FINALIZE is an engine tick that takes no sample. -/
theorem exec_finalize_of_encodable {s : State} (h : s.engine.Encodable) :
    exec .finalize s = .next (s.afterTick s.engine.finalize none) :=
  engineTick_of_encodable h false s.engine.finalize

/-- The checksum test fails, in numbers (44_finalize_decode.md R182). -/
theorem checksumMatches_eq_false_iff (f : Frame) : checksumMatches f = false ↔
    ((byte0 f).toNat + (byte1 f).toNat + (byte2 f).toNat + (byte3 f).toNat) % 256 ≠ (byte4 f).toNat := by
  rw [← Bool.not_eq_true, checksumMatches_iff]

/-- Settles O26, by the two answers of the checksum test. -/
theorem finalizeStep : Obligations.FinalizeStep := by
  intro s he
  constructor <;> intro hsum
  · rw [exec_finalize_of_encodable he, Engine.finalize_of_match ((checksumMatches_iff _).mpr hsum)]
    rfl
  · rw [exec_finalize_of_encodable he, Engine.finalize_of_mismatch ((checksumMatches_eq_false_iff _).mpr hsum)]
    rfl

/-! The two ways FINALIZE ends (44_finalize_decode.md R183). -/

section
variable {S : Engine}

theorem Engine.outcome_finalize_of_match (h : checksumMatches S.shreg = true) :
    S.finalize.outcome = some (.success ⟨S.finalize.humTenths, S.finalize.tempTenths⟩) := by
  rw [finalize_of_match h]
  rfl

theorem Engine.outcome_finalize_of_mismatch (h : checksumMatches S.shreg = false) :
    S.finalize.outcome = some (.failure .checksumMismatch) := by
  rw [finalize_of_mismatch h]
  rfl

/-- A mismatch writes none of the result elements. -/
theorem Engine.noResult_finalize_of_mismatch (h : checksumMatches S.shreg = false) (hr : S.NoResult) : S.finalize.NoResult := by
  rw [finalize_of_mismatch h]
  exact hr

theorem Engine.finalize_err_eq_none_iff : S.finalize.err = none ↔ checksumMatches S.shreg = true := by
  cases h : checksumMatches S.shreg
  · rw [finalize_of_mismatch h]
    exact ⟨nofun, nofun⟩
  · rw [finalize_of_match h]
    exact ⟨fun _ => rfl, fun _ => rfl⟩

end

/-- FINALIZE succeeds on a frame, in whatever encodable state holds it, exactly when the checksum matches. -/
theorem finalize_succeeds_iff (f : Frame) :
    (∀ s : State, s.engine.Encodable → s.engine.shreg = f →
      ∃ t, exec .finalize s = .next t ∧ t.engine.done = true ∧ t.engine.err = none) ↔ checksumMatches f = true := by
  constructor
  · intro h
    obtain ⟨s, he, rfl⟩ : ∃ s : State, s.engine.Encodable ∧ s.engine.shreg = f :=
      ⟨{ State.reset with engine := { Engine.reset with shreg := f } }, ⟨Nat.zero_le _, nofun⟩, rfl⟩
    obtain ⟨t, ht, -, herr⟩ := h s he rfl
    obtain ⟨-, rfl⟩ := engineTick_next ht
    exact Engine.finalize_err_eq_none_iff.mp herr
  · rintro hm s he rfl
    obtain ⟨-, hdone, -⟩ := s.engine.finalize_ends
    exact ⟨_, exec_finalize_of_encodable he, hdone, Engine.finalize_err_eq_none_iff.mpr hm⟩

/-- A frame is determined by its bytes (30_encoding.md R84). -/
theorem frame_eq_of_bytes {f g : Frame} (h0 : byte0 f = byte0 g) (h1 : byte1 f = byte1 g) (h2 : byte2 f = byte2 g)
    (h3 : byte3 f = byte3 g) (h4 : byte4 f = byte4 g) : f = g := by
  apply BitVec.eq_of_toNat_eq
  rw [frameIsItsFiveBytes f, frameIsItsFiveBytes g, h0, h1, h2, h3, h4]

/-- Any five bytes are those of exactly one frame: they are its base-256 digits. -/
theorem existsUnique_frame_of_bytes (b0 b1 b2 b3 b4 : Byte) :
    ∃! f : Frame, byte0 f = b0 ∧ byte1 f = b1 ∧ byte2 f = b2 ∧ byte3 f = b3 ∧ byte4 f = b4 := by
  refine existsUnique_of_exists_of_unique ⟨BitVec.ofNat 40
    ((((b0.toNat * 256 + b1.toNat) * 256 + b2.toNat) * 256 + b3.toNat) * 256 + b4.toNat), ?_⟩ ?_
  · simp only [byte0, byte1, byte2, byte3, byte4, ← BitVec.toNat_inj, BitVec.extractLsb'_toNat, BitVec.toNat_ofNat,
      Nat.shiftRight_eq_div_pow]
    omega
  · rintro f g ⟨h0, h1, h2, h3, h4⟩ ⟨rfl, rfl, rfl, rfl, rfl⟩
    exact frame_eq_of_bytes h0 h1 h2 h3 h4

/-- With its data bytes given, a frame's checksum matches exactly when byte 4 is their sum modulo 256 (44_finalize_decode.md R182). -/
theorem bytes_checksumMatches_iff (b0 b1 b2 b3 : Byte) (f : Frame) :
    (byte0 f = b0 ∧ byte1 f = b1 ∧ byte2 f = b2 ∧ byte3 f = b3 ∧ checksumMatches f = true) ↔
    (byte0 f = b0 ∧ byte1 f = b1 ∧ byte2 f = b2 ∧ byte3 f = b3 ∧
      byte4 f = BitVec.ofNat 8 (b0.toNat + b1.toNat + b2.toNat + b3.toNat)) := by
  constructor
  · rintro ⟨rfl, rfl, rfl, rfl, hm⟩
    exact ⟨rfl, rfl, rfl, rfl, (of_decide_eq_true hm).symm⟩
  · rintro ⟨rfl, rfl, rfl, rfl, hm⟩
    exact ⟨rfl, rfl, rfl, rfl, decide_eq_true hm.symm⟩

/-- Settles O28: the checksum test decides the outcome, and given the data bytes it holds for exactly one byte 4. -/
theorem checksumDecidesSuccess : Obligations.ChecksumDecidesSuccess := by
  refine ⟨fun s he hr => ⟨_, exec_finalize_of_encodable he, fun hsum => ?_, fun hsum => ?_⟩, fun b0 b1 b2 b3 => ?_⟩
  · exact Engine.outcome_finalize_of_match ((checksumMatches_iff _).mpr hsum)
  · have hm := (checksumMatches_eq_false_iff _).mpr hsum
    exact ⟨Engine.outcome_finalize_of_mismatch hm, Engine.noResult_finalize_of_mismatch hm hr⟩
  · simp only [finalize_succeeds_iff, bytes_checksumMatches_iff]
    exact existsUnique_frame_of_bytes _ _ _ _ _

/-- The magnitude has 15 bits, so the conversion stays above the least signed number (44_finalize_decode.md R186). -/
theorem neg_32768_lt_signMagToTwos_toInt (t : BitVec 16) : -32768 < (signMagToTwos t).toInt := by
  have hlt := t.isLt
  rw [signMagToTwos_toInt]
  split <;> omega

/-- Settles O29: the value is `signMagToTwos_toInt`'s, and 0x8000 would be -32768. -/
theorem signMagnitudeBecomesTwosComplement : Obligations.SignMagnitudeBecomesTwosComplement := by
  intro t
  have hsign : t.getLsbD 15 = decide (32768 ≤ t.toNat) := BitVec.msb_eq_decide t
  have hlt := t.isLt
  constructor
  · simp only [signMagToTwos_toInt, hsign, decide_eq_true_eq]
    split <;> omega
  · intro h
    have habove := neg_32768_lt_signMagToTwos_toInt t
    rw [h] at habove
    exact absurd habove (by decide)

end Sys2Proof.Machine
end

section
/-! PROOFS. The step that decides each outcome, and the word of STATUS after it (60_exceptions.md R221). -/

namespace Sys2Proof.Machine

section
variable {c : Config} {S : Engine}

/-- An engine that holds an outcome is idle (10_state.md R27). -/
theorem Engine.Inv.idle_of_done (h : S.Inv c) (hd : S.done = true) : S.phase = .idle := by
  by_contra hb
  obtain ⟨hno, -⟩ := h.noOutcome hb
  cases hd.symm.trans hno

/-- STATUS with an outcome to read: the fields of the canonical idle (10_state.md R33, R42), the code and VALID. -/
theorem Engine.Inv.statusWord_of_done (h : S.Inv c) (hd : S.done = true) :
    statusWord S = 0x030000#24 ++ 0#1 ++ errCode S.err ++ 0#1 ++ BitVec.ofBool (decide (S.err = none)) ++ 0b10#2 := by
  have hp := h.idle_of_done hd
  obtain ⟨⟨hdir, hout⟩, ⟨hbitn, -⟩, -⟩ := (inv_idle hp).mp h
  rw [statusWord, valid, busy, hout, hdir, hbitn, hp, hd]
  cases S.err with
  | none => rfl
  | some e => cases e <;> rfl

/-- What the host reads of a failure (60_exceptions.md R200, R207). -/
theorem Engine.Inv.reads_failure {e : ErrorKind} (h : S.Inv c) (hd : S.done = true) (he : S.err = some e) :
    S.outcome = some (.failure e) ∧ errCode S.err = e.code ∧
      statusWord S = 0x030000#24 ++ 0#1 ++ e.code ++ 0#1 ++ 0#1 ++ 0b10#2 := by
  rw [h.statusWord_of_done hd, outcome, hd, he]
  exact ⟨rfl, rfl, rfl⟩

/-- What the host reads of a success (44_finalize_decode.md R181). -/
theorem Engine.Inv.reads_success (h : S.Inv c) (hd : S.done = true) (he : S.err = none) :
    S.outcome = some (.success ⟨S.humTenths, S.tempTenths⟩) ∧ errCode S.err = 0 ∧ statusWord S = 0x03000006 := by
  rw [h.statusWord_of_done hd, outcome, hd, he]
  exact ⟨rfl, rfl, rfl⟩

end

/-- Only a tick of the engine sets `done`: reset and START clear it, and the host's other operations leave the elements alone
(10_state.md R27). -/
theorem engine_eq_step_of_sets_done {s t : State} (h : step s = .next t) (h0 : s.engine.done = false)
    (h1 : t.engine.done = true) : t.engine = s.engine.step s.config s.sensed := by
  obtain ⟨-, h⟩ := step_cases h
  obtain ⟨-, ops, rfl | rfl⟩ | ⟨b, rest, -, rfl⟩ | ⟨-, ops, w, rfl⟩ | ⟨-, op, rest, -, -, rfl⟩ | ⟨-, -, ops, rfl⟩ := h
  · cases h1
  · cases h1
  · rw [State.setRst_engine] at h1
    split at h1
    · cases h1
    · cases h0.symm.trans h1
  · cases h0.symm.trans h1
  · by_cases hp : s.engine.phase = .idle
    · rw [State.onEngine_engine, State.withHost_engine, Engine.acceptStart_of_idle _ hp] at h1
      cases h1
    · rw [State.onEngine_engine, State.withHost_engine, Engine.acceptStart_of_busy _ hp] at h1
      cases h0.symm.trans h1
  · rfl

/-- Settles O44: the step that sets `done` is the engine's and ends in IDLE, so it is one of the six edges of 10_state.md R41 into
IDLE (`Engine.step_leaves`), FINALIZE's with the two answers of the checksum test. The invariant after the step fixes STATUS. -/
theorem classifierDecidesEachOutcome : Obligations.ClassifierDecidesEachOutcome := by
  intro s t hs h h0 h1
  have ht := (everyStepKeepsTheInvariant s t hs h).engine
  have hidle := ht.idle_of_done h1
  have hstep := engine_eq_step_of_sets_done h h0 h1
  have hbusy : s.engine.phase ≠ .idle := by
    intro hp
    rw [hstep, Engine.step_of_idle _ _ hp] at h1
    cases h0.symm.trans h1
  have hfin (hp : s.engine.phase = .finalize) : s.engine.tmr = 0 := by
    obtain ⟨-, -, -, htmr, -⟩ := (Engine.inv_finalize hp).mp hs.engine
    exact htmr
  have hleaves : (s.engine.step s.config s.sensed).phase ≠ s.engine.phase := by
    rw [← hstep, hidle]
    exact hbusy.symm
  have hedge := Engine.step_leaves hfin hleaves
  simp only [← hstep, hidle, reduceCtorEq, and_false, false_or, true_and] at hedge
  intro S T
  obtain ⟨htmr, ⟨hp, hi, he⟩ | ⟨hp, hi, he⟩ | ⟨hp, hi, he⟩ | ⟨hp, hi, he⟩ | ⟨hp, hi, he⟩ | ⟨hp, -⟩⟩ := hedge
  · exact .inl ⟨hp, htmr, hi, ht.reads_failure h1 he⟩
  · exact .inr (.inl ⟨hp, htmr, hi, ht.reads_failure h1 he⟩)
  · exact .inr (.inr (.inl ⟨hp, htmr, hi, ht.reads_failure h1 he⟩))
  · exact .inr (.inr (.inr (.inl ⟨hp, htmr, hi, ht.reads_failure h1 he⟩)))
  · exact .inr (.inr (.inr (.inr (.inl ⟨hp, htmr, hi, ht.reads_failure h1 he⟩))))
  · have hT : T = S.finalize := hstep.trans (by rw [Engine.step, hp])
    cases hm : checksumMatches S.shreg
    · have he : T.err = some .checksumMismatch := by
        rw [hT, Engine.finalize_of_mismatch hm]
        rfl
      exact .inr (.inr (.inr (.inr (.inr (.inl ⟨hp, of_decide_eq_false hm, ht.reads_failure h1 he⟩)))))
    · have he : T.err = none := by rw [hT, Engine.finalize_err_eq_none_iff, hm]
      have hread : T.humTenths = humidityRaw S.shreg ∧ T.tempTenths = signMagToTwos (temperatureRaw S.shreg) := by
        rw [hT, Engine.finalize_of_match hm]
        exact ⟨rfl, rfl⟩
      obtain ⟨hhum, htemp⟩ := hread
      rw [← hhum, ← htemp]
      exact .inr (.inr (.inr (.inr (.inr (.inr ⟨hp, of_decide_eq_true hm, ht.reads_success h1 he⟩)))))

end Sys2Proof.Machine
end

section
/-! PROOFS. How long a successful transaction takes (70_reset_and_hazards.md R252): each phase on its way leaves the success to the
state it enters, after a least and a greatest number of ticks. -/

namespace Sys2Proof.Machine

/-- The transaction that `S` is in during tick `k` ends in IDLE in tick `t`, and not before, with no failure. -/
def Engine.SucceedsAt (c : Config) (L : Nat → Level) (k : Nat) (S : Engine) (t : Nat) : Prop :=
  ∃ n, t = k + n ∧ (Engine.run c L k S n).phase = .idle ∧ (Engine.run c L k S n).err = none ∧
    ∀ m < n, (Engine.run c L k S m).phase ≠ .idle

section
variable {c : Config} {L : Nat → Level} {k k' t : Nat} {S T : Engine}

/-- An idle engine holds (41_line_driver.md R130), so every later state of the run is the one it was first idle in. -/
theorem Engine.run_eq_of_idle {m n : Nat} (hmn : m ≤ n) (h : (Engine.run c L k S m).phase = .idle) :
    Engine.run c L k S n = Engine.run c L k S m := by
  obtain ⟨i, rfl⟩ := Nat.exists_eq_add_of_le hmn
  rw [run_add, run_of_idle c L _ h]

/-- A busy state on the way to a success has that success to come. -/
theorem Engine.SucceedsAt.of_reaches (h : SucceedsAt c L k S t) (hr : Reaches c L k S k' T) (hb : T.phase ≠ .idle) :
    SucceedsAt c L k' T t := by
  obtain ⟨n, rfl, hidle, herr, hbusy⟩ := h
  obtain ⟨d, rfl, rfl⟩ := hr
  obtain hnd | hdn := Nat.lt_or_ge n d
  · rw [run_eq_of_idle hnd.le hidle] at hb
    exact absurd hidle hb
  · obtain ⟨m, rfl⟩ := Nat.exists_eq_add_of_le hdn
    rw [run_add] at hidle herr
    refine ⟨m, (Nat.add_assoc _ _ _).symm, hidle, herr, fun i hi => ?_⟩
    rw [← run_add]
    exact hbusy _ (Nat.add_lt_add_left hi d)

/-- An idle state on the way to a success is its end, and holds no failure. -/
theorem Engine.SucceedsAt.no_failure (h : SucceedsAt c L k S t) (hr : Reaches c L k S k' T) (hi : T.phase = .idle) :
    T.err = none := by
  obtain ⟨n, rfl, hidle, herr, hbusy⟩ := h
  obtain ⟨d, rfl, rfl⟩ := hr
  have hnd : n ≤ d := Nat.le_of_not_lt fun hdn => hbusy d hdn hi
  rw [run_eq_of_idle hnd hidle, herr]

/-- FINALIZE takes one tick (44_finalize_decode.md R180). -/
theorem Engine.SucceedsAt.of_finalize (h : SucceedsAt c L k S t) (hp : S.phase = .finalize) : t = k + 1 := by
  obtain ⟨n, rfl, hidle, -, hbusy⟩ := h
  have hend : (Engine.run c L k S 1).phase = .idle := by
    rw [run, run, step, hp]
    exact S.finalize_ends.1
  match n with
  | 0 => cases hp.symm.trans hidle
  | 1 => rfl
  | n + 2 => exact absurd hend (hbusy 1 (by omega))

/-- A polling phase on the way to a success sees its target, by its last sample at the latest. -/
theorem Engine.PollsIn.succeeds_next {p : Phase} {target : Level} {n : BitVec 8} {fail : ErrorKind} {next : Engine → Engine}
    (h : PollsIn c p target n fail next) (hP : 1 ≤ c.pPoll.toNat) (hp : S.phase = p) (ht : S.tmr = 0) (hi : S.iter = 0)
    (hb : (next { S with tmr := 0, iter := 0 }).phase ≠ .idle) (hs : SucceedsAt c L k S t) :
    ∃ k', k + 1 ≤ k' ∧ k' ≤ k + c.longestStay n ∧ SucceedsAt c L k' (next { S with tmr := 0, iter := 0 }) t := by
  by_cases hex : ∃ j < n.toNat, L (k + j * c.pPoll.toNat) = target
  · obtain ⟨hj, hhit⟩ := Nat.find_spec hex
    have hmiss (i : Nat) (hij : i < Nat.find hex) : L (k + i * c.pPoll.toNat) ≠ target :=
      fun hL => Nat.find_min hex hij ⟨hij.trans hj, hL⟩
    have hstay : Nat.find hex * c.pPoll.toNat ≤ (n.toNat - 1) * c.pPoll.toNat :=
      Nat.mul_le_mul_right _ (Nat.le_sub_one_of_lt hj)
    refine ⟨_, ?_, ?_, hs.of_reaches (reaches_of_run (h.run_hit hP L hp ht hi hj hmiss hhit)) hb⟩
    · omega
    · rw [Config.longestStay]
      omega
  · have hmiss (i : Nat) (hin : i < n.toNat) : L (k + i * c.pPoll.toNat) ≠ target := fun hL => hex ⟨i, hin, hL⟩
    have habort : (S.abort fail).err = none := hs.no_failure (reaches_of_run (h.run_timeout hP L hp ht hi hmiss)) rfl
    cases habort

end

/-! The bit loop (43_bit_readout.md). -/

/-- `r` of the 40 bits are to come, on entering BIT_WAIT_HIGH, or FINALIZE with none. -/
structure Engine.BitsToCome (r : Nat) (S : Engine) : Prop where
  phase_eq : S.phase = if r = 0 then .finalize else .bitWaitHigh
  tmr_eq : S.tmr = 0
  iter_eq : S.iter = 0
  bitn_add : S.bitn.toNat + r = 40

section
variable {c : Config} (hc : c.Legal) {L : Nat → Level} {k t r : Nat} {S : Engine}
include hc

/-- A bit pass on the way to a success takes `T_SAMPLE + 2` ticks or more, and `B` at most (70_reset_and_hazards.md R252). -/
theorem Engine.BitsToCome.succeeds_next (h : S.BitsToCome (r + 1)) (hs : SucceedsAt c L k S t) :
    ∃ k' T, k + (c.tSample.toNat + 2) ≤ k' ∧ k' ≤ k + c.longestPass ∧ BitsToCome r T ∧ SucceedsAt c L k' T t := by
  obtain ⟨-, -, hP, -, -, -, -, -, hsample, -⟩ := hc
  obtain ⟨hp, ht, hi, hbits⟩ := h
  have hload : (c.tSample - 1).toNat + 1 = c.tSample.toNat := by bv_omega
  obtain ⟨k₁, hk₁, hk₁', hdelay⟩ := (pollsIn_bitWaitHigh c).succeeds_next hP hp ht hi nofun hs
  have hlow := hdelay.of_reaches (reaches_of_run (run_bitSampleDelay c L k₁ rfl)) nofun
  simp only [hload] at hlow
  obtain ⟨k₂, hk₂, hk₂', hpass⟩ := (pollsIn_bitWaitLow c).succeeds_next hP rfl rfl rfl (by simp only; split <;> nofun) hlow
  refine ⟨k₂, _, by omega, by rw [Config.longestPass]; omega, ⟨?_, rfl, rfl, ?_⟩, hpass⟩
  · have hlast : S.bitn + 1 = Config.nBits ↔ r = 0 := by
      rw [Config.nBits]
      constructor <;> intro <;> bv_omega
    simp only [hlast]
  · show (S.bitn + 1).toNat + r = 40
    bv_omega

/-- The bit loop and FINALIZE, on the way to a success. -/
theorem Engine.BitsToCome.success_time (h : S.BitsToCome r) (hs : SucceedsAt c L k S t) :
    k + r * (c.tSample.toNat + 2) + 1 ≤ t ∧ t ≤ k + r * c.longestPass + 1 := by
  induction r generalizing k S with
  | zero =>
    have := hs.of_finalize h.phase_eq
    omega
  | succ r ih =>
    obtain ⟨k', T, hmin, hmax, hT, hs'⟩ := h.succeeds_next hc hs
    have := ih hT hs'
    rw [Nat.succ_mul, Nat.succ_mul]
    omega

/-- The handshake, the bit loop and FINALIZE, on the way to a success. -/
theorem Engine.awaitResponse_success_time (hs : SucceedsAt c L k (entered .awaitResponse) t) :
    k + 3 + 40 * (c.tSample.toNat + 2) + 1 ≤ t ∧
      t ≤ k + c.longestStay c.nResponse + c.longestStay c.nAck + c.longestStay c.nDataStart + 40 * c.longestPass + 1 := by
  have ⟨_, _, hP, _⟩ := hc
  obtain ⟨k₁, hk₁, hk₁', hack⟩ := (pollsIn_awaitResponse c).succeeds_next hP rfl rfl rfl nofun hs
  obtain ⟨k₂, hk₂, hk₂', hdata⟩ := (pollsIn_awaitAck c).succeeds_next hP rfl rfl rfl nofun hack
  obtain ⟨k₃, hk₃, hk₃', hbits⟩ := (pollsIn_awaitDataStart c).succeeds_next hP rfl rfl rfl nofun hdata
  have := BitsToCome.success_time hc (r := 40) ⟨rfl, rfl, rfl, rfl⟩ hbits
  omega

end

/-- A transaction that first has `done = 1` after `n` ticks, with no failure, first is idle then. -/
theorem Engine.succeedsAt_of_done {c : Config} (hc : c.Legal) {L : Nat → Level} {k n : Nat} {S : Engine} (h : S.Inv c)
    (hdone : (Engine.run c L k S n).done = true) (herr : (Engine.run c L k S n).err = none)
    (hfirst : ∀ m < n, (Engine.run c L k S m).done = false) : SucceedsAt c L k S (k + n) := by
  refine ⟨n, rfl, (h.run hc L k n).idle_of_done hdone, herr, fun m hm hidle => ?_⟩
  rw [run_eq_of_idle hm.le hidle, hfirst m hm] at hdone
  cases hdone

/-- Settles O57: the start pulse takes the same time always, and R252's two rows add the least and the greatest times of the phases
after it. -/
theorem successTakesBetweenShortestAndLongest : Obligations.SuccessTakesBetweenShortestAndLongest := by
  intro c L k n S hc hp hdone herr hfirst
  have hstart := Engine.succeedsAt_of_done hc (Engine.inv_acceptStart hc hp) hdone herr hfirst
  have := Engine.awaitResponse_success_time hc (hstart.of_reaches (Engine.reaches_awaitResponse hc L k hp) nofun)
  rw [Config.shortestSuccess, Config.longestSuccess]
  omega

end Sys2Proof.Machine
end
